-- ==== Sys2Proof/Word.lean ====
section
/-! DEFINITION. The two word types of the spec: bytes of the wire and of the segment store, and the 32-bit words of every
host-visible register, counter and sample (00_scope.md R8, R13). -/

namespace Sys2Proof

/-- An 8-bit value of a byte sequence (00_scope.md R12). -/
abbrev Byte := BitVec 8

/-- A 32-bit word: a register, a counter or one sample (00_scope.md R8). -/
abbrev Word := BitVec 32

end Sys2Proof
end

