-- ==== Sys2Proof/Config.lean ====
section
/-! DEFINITION. The fixed constants (00_scope.md R7), the values the implementation parameters have at `State.reset` (R8), and
the free values: what the spec leaves unspecified after a step (93_implementation_defined.md items 11 to 13). The parameters
themselves are no constants: State holds them, and a statement over all states holds for every value (log entries 5 and
15). -/

namespace Sys2Proof.Config

/-- HEADER_LEN (00_scope.md R7). -/
@[simp] abbrev headerLen : Nat := 6
/-- PAYLOAD_LEN (00_scope.md R7). -/
@[simp] abbrev payloadLen : Nat := 512
/-- FRAME_LEN = HEADER_LEN + PAYLOAD_LEN (00_scope.md R7). -/
@[simp] abbrev frameLen : Nat := 518
/-- SAMPLES_PER_ROW (00_scope.md R7). -/
@[simp] abbrev samplesPerRow : Nat := 128
/-- SLOT_BYTES = PAYLOAD_LEN (00_scope.md R7). -/
@[simp] abbrev slotBytes : Nat := 512
/-- The value SEG_BYTES_MAX holds at `State.reset`, 16 MiB (00_scope.md R8, decision D20; log entry 15). -/
@[simp] abbrev resetSegBytesMax : Nat := 16777216
/-- The value SEG_COUNT_MAX holds at `State.reset` (00_scope.md R8, decision D20; log entry 15). -/
@[simp] abbrev resetSegCountMax : Nat := 32

/-- The value PARAM holds at `State.reset`: READ_MAX = 2048, KEEP = 518.
DESIGN CHOICE, unsafe: READ_MAX is OPEN in the spec (R8, D5) and 2048 is what its test vectors assume; no statement rests
on it (log entry 5). -/
abbrev resetParam : Word := 0x02060800#32

/-- Free value: byte `i` of F once it is unspecified again, at draw `d` (10_state.md R34; log entry 7). -/
opaque freeFrameByte (d i : Nat) : Byte
/-- Free value: byte `i` of PK_ADDR once it is unspecified again, at draw `d` (10_state.md R35; log entry 7). -/
opaque freeAddrByte (d i : Nat) : Byte
/-- Free value: word `k` of PK_SAMPLE once it is unspecified again, at draw `d` (10_state.md R35; log entry 7). -/
opaque freeSample (d k : Nat) : Word
/-- Free value: SLOTS after STEP.RESET, at draw `d` (10_state.md R56; log entry 7). -/
opaque freeSlots (d : Nat) : Word
/-- Free value: CAPACITY after STEP.RESET, at draw `d` (10_state.md R56; log entry 7). -/
opaque freeCapacity (d : Nat) : Word

end Sys2Proof.Config
end

