-- ==== Sys2Proof/Syntax.lean ====
section
/-! DEFINITION. The transactions of FSYNC-ROT: one constructor for each row of spec/opcode_table.json. -/

namespace Sys2Proof

/-- The storage agent's answer to an open request (30_encoding.md R119). -/
inductive StorageAnswer where
  /-- OPEN_OK: the segment was created or truncated, zero-filled and mapped. -/
  | ok
  /-- OPEN_FAIL: the segment file could not be created, zero-filled or mapped. -/
  | fail
  deriving DecidableEq, Repr

/-- One transaction of one agent, in the order of the opcode table. An operand `a : Option StorageAnswer` is the storage
agent's answer where it is given in the same step (R220, R222, R282: "Operands: … a"); `none` where no answer has come yet
(log entry 2). An answer given with a transaction that opens nothing is dropped (log entry 22). -/
inductive Instr where
  /-- CMD.NOP (45_host_commands.md R281). -/
  | cmdNop
  /-- CMD.START (45_host_commands.md R282). -/
  | cmdStart (a : Option StorageAnswer)
  /-- CMD.CANCEL (45_host_commands.md R283). -/
  | cmdCancel
  /-- CMD.CLRERR (45_host_commands.md R284). -/
  | cmdClrerr
  /-- CMD.SOFTRESET (45_host_commands.md R285). -/
  | cmdSoftreset
  /-- RX.DATA: the link agent answers with these bytes, in wire order (40_link_interface.md R152). -/
  | rxData (data : List Byte)
  /-- RX.FAIL (40_link_interface.md R154). -/
  | rxFail
  /-- SA.OPEN_OK: the storage agent answers the outstanding open (43_storage_rotator.md R220). -/
  | saOpenOk
  /-- SA.OPEN_FAIL: the storage agent answers the outstanding open (43_storage_rotator.md R220). -/
  | saOpenFail
  /-- WR.CMD: a host write to CMD with any data (45_host_commands.md R280). -/
  | wrCmd (d : Word) (a : Option StorageAnswer)
  /-- WR.HDR0 (10_state.md R36, R58). -/
  | wrHdr0 (d : Word)
  /-- WR.HDR1 (10_state.md R36, R58). -/
  | wrHdr1 (d : Word)
  /-- WR.BUDGET (10_state.md R37, R58). -/
  | wrBudget (d : Word)
  /-- WR.SEG_BYTES (10_state.md R38, R58). -/
  | wrSegBytes (d : Word)
  /-- WR.SEG_COUNT (10_state.md R39, R58). -/
  | wrSegCount (d : Word)
  /-- WR.IRQ (45_host_commands.md R287). -/
  | wrIrq (d : Word)
  /-- WR.READONLY_OR_RESERVED: a host write to register number `n`, which is read-only or reserved (30_encoding.md R113). -/
  | wrReadonlyOrReserved (n : BitVec 6) (d : Word)
  /-- RD: a host read of register number `n`, offset 4n (30_encoding.md R111, 45_host_commands.md R288). -/
  | rd (n : BitVec 6)
  /-- READ: the host's StoreRead of `n` bytes of segment `seg` from byte offset `off` (20_memory.md R90). -/
  | read (seg off n : Word)
  /-- STEP.CHECK (44_acquisition_loop.md R250). -/
  | stepCheck
  /-- STEP.DELIVER (44_acquisition_loop.md R252). -/
  | stepDeliver
  /-- STEP.ROTATE (43_storage_rotator.md R222). -/
  | stepRotate (a : Option StorageAnswer)
  /-- STEP.RESET: hardware reset (70_reset_and_hazards.md R340). -/
  | stepReset
  deriving DecidableEq, Repr

end Sys2Proof
end

