-- ==== Sys2Proof/WellFormed.lean ====
section
/-! DEFINITION. Which transactions the encodings of 30_encoding.md can carry. -/

namespace Sys2Proof

/-- Register number `n` (offset 4n) is read-only or reserved: STATUS, SAMPLES_WRITTEN, SEG_INDEX, SLOT_CURSOR, WIN_LEN, PARAM
or 13 to 63 (30_encoding.md R111, R113). -/
def readonlyOrReserved (n : BitVec 6) : Bool :=
  match n.toNat with
  | 0 | 2 | 3 | 4 | 5 | 6 | 12 => false
  | _ => true

/-- The field N of a link answer has 16 bits (30_encoding.md R117), and the row WR.READONLY_OR_RESERVED is for the
read-only and reserved registers only (R113). Every other operand may take any value. That N is at most READ_MAX (R118)
depends on the PARAM register and is checked by the meaning. -/
def Instr.wellFormed : Instr → Bool
  | .cmdNop => true
  | .cmdStart _ => true
  | .cmdCancel => true
  | .cmdClrerr => true
  | .cmdSoftreset => true
  | .rxData data => decide (data.length < 65536)
  | .rxFail => true
  | .saOpenOk => true
  | .saOpenFail => true
  | .wrCmd _ _ => true
  | .wrHdr0 _ => true
  | .wrHdr1 _ => true
  | .wrBudget _ => true
  | .wrSegBytes _ => true
  | .wrSegCount _ => true
  | .wrIrq _ => true
  | .wrReadonlyOrReserved n _ => readonlyOrReserved n
  | .rd _ => true
  | .read _ _ _ => true
  | .stepCheck => true
  | .stepDeliver => true
  | .stepRotate _ => true
  | .stepReset => true

end Sys2Proof
end

