-- ==== Sys2Proof/Decode.lean ====
section
/-! DEFINITION. Little-endian words, the decoder of a transaction from bytes (total, rejecting by name), the encoder after
it, and `decodeTableWord`.

A transaction begins with a byte that names its format (the `format` column of the opcode table), because words of
different formats coincide (0x00000001 is both START and OPEN_OK). The bits of every word are the spec's; the format byte,
the layout of READ and of the internal steps, and the attached storage answer are the model's (DESIGN CHOICE, log entries
1, 2 and 11). -/

namespace Sys2Proof

/-- le32 (00_scope.md R13): `b0` is the byte that comes first and lies in bits [7:0]. -/
def le32 (b0 b1 b2 b3 : Byte) : Word := b3 ++ b2 ++ b1 ++ b0

/-- The four bytes of a word, the lowest first (42_decode.md R204, `b(w)`). -/
def wordBytes (w : Word) : List Byte :=
  [w.extractLsb' 0 8, w.extractLsb' 8 8, w.extractLsb' 16 8, w.extractLsb' 24 8]

/-- The formats of a transaction: the opcode table's `format` column, and three of them with the storage agent's answer
word attached (log entry 2). -/
inductive Format where
  | cmd | link | storage | hostbusWr | hostbusRd | storeRead | internal
  | cmdAnswered | hostbusWrAnswered | internalAnswered
  deriving DecidableEq, Repr

/-- The byte a transaction of a format begins with (DESIGN CHOICE, log entry 1). Bit 7 says that a storage answer word ends
the transaction. -/
def formatTag : Format → Byte
  | .cmd => 0x00#8
  | .link => 0x01#8
  | .storage => 0x02#8
  | .hostbusWr => 0x03#8
  | .hostbusRd => 0x04#8
  | .storeRead => 0x05#8
  | .internal => 0x06#8
  | .cmdAnswered => 0x80#8
  | .hostbusWrAnswered => 0x83#8
  | .internalAnswered => 0x86#8

/-- The format a first byte names; `none` for every other byte. -/
def formatOfTag (t : Byte) : Option Format :=
  match t.toNat with
  | 0x00 => some .cmd
  | 0x01 => some .link
  | 0x02 => some .storage
  | 0x03 => some .hostbusWr
  | 0x04 => some .hostbusRd
  | 0x05 => some .storeRead
  | 0x06 => some .internal
  | 0x80 => some .cmdAnswered
  | 0x83 => some .hostbusWrAnswered
  | 0x86 => some .internalAnswered
  | _ => none

/-- Why the bytes are no transaction. Every reason is a case the spec gives no step, or bytes that stand for nothing the
spec has; refusing it is safe. -/
inductive DecodeError where
  /-- The first byte names no format, or there is none. -/
  | unknownFormat
  /-- The transaction ends before its words do; for a link answer: fewer than N data bytes follow (30_encoding.md R118). -/
  | missingBytes
  /-- A register access at an offset with [1:0] ≠ 0 (20_memory.md R85, 30_encoding.md R111). -/
  | misalignedOffset
  /-- A link answer with RSVD ≠ 0, or FAIL = 1 with N ≠ 0 (30_encoding.md R118). -/
  | illFormedLinkAnswer
  /-- A storage answer with bits [31:1] ≠ 0 (30_encoding.md R119). -/
  | illFormedStorageAnswer
  /-- A storage answer attached to a transaction that never asks for an open (43_storage_rotator.md R220). -/
  | answerWithoutOpen
  /-- An internal step number that names no step (30_encoding.md R131). -/
  | unknownStep
  deriving DecidableEq, Repr

/-- What the decoder answers: an instruction and the bytes after it, or a reason. -/
inductive Decoded where
  | ok (i : Instr) (rest : List Byte)
  | bad (e : DecodeError)
  deriving DecidableEq, Repr

/-- The next little-endian word, and the bytes after it. -/
def takeWord : List Byte → Option (Word × List Byte)
  | b0 :: b1 :: b2 :: b3 :: rest => some (le32 b0 b1 b2 b3, rest)
  | _ => none

/-- The storage answer word (30_encoding.md R119): 1 is OPEN_OK, 0 is OPEN_FAIL, every other word is ill-formed. -/
def storageAnswerOf (w : Word) : Option StorageAnswer :=
  match w.toNat with
  | 0 => some .fail
  | 1 => some .ok
  | _ => none

/-- The storage answer word of an answer (30_encoding.md R119). -/
def storageAnswerWord : StorageAnswer → Word
  | .ok => 1#32
  | .fail => 0#32

/-- A command word (30_encoding.md R114, R115). An illegal word (R116) is the host write that carries it. -/
def commandOf (w : Word) : Instr :=
  match w.toNat with
  | 0 => .cmdNop
  | 1 => .cmdStart none
  | 2 => .cmdCancel
  | 3 => .cmdClrerr
  | 4 => .cmdSoftreset
  | _ => .wrCmd w none

/-- A host write of `d` to register number `n` (30_encoding.md R111, R113). -/
def hostWriteOf (n : BitVec 6) (d : Word) : Instr :=
  match n.toNat with
  | 0 => .wrCmd d none
  | 2 => .wrHdr0 d
  | 3 => .wrHdr1 d
  | 4 => .wrBudget d
  | 5 => .wrSegBytes d
  | 6 => .wrSegCount d
  | 12 => .wrIrq d
  | _ => .wrReadonlyOrReserved n d

/-- The register number of an offset, offset[7:2] (30_encoding.md R111); `none` where offset[1:0] ≠ 0. -/
def registerNumber (offset : Byte) : Option (BitVec 6) :=
  if offset.extractLsb' 0 2 = 0#2 then some (offset.extractLsb' 2 6) else none

/-- The offset 4n of register number n (30_encoding.md R111). -/
def registerOffset (n : BitVec 6) : Byte := n ++ 0#2

/-- CMD format: one command word. -/
def decodeCmd (bs : List Byte) : Decoded :=
  match takeWord bs with
  | none => .bad .missingBytes
  | some (w, rest) => .ok (commandOf w) rest

/-- CMD format with a storage answer attached: only START asks for an open, and with another word the answer is refused. DESIGN
CHOICE, log entry 22: the spec has no such transaction. -/
def decodeCmdAnswered (bs : List Byte) : Decoded :=
  match takeWord bs with
  | none => .bad .missingBytes
  | some (w, bs') =>
    if w = 1#32 then
      match takeWord bs' with
      | none => .bad .missingBytes
      | some (v, rest) =>
        match storageAnswerOf v with
        | none => .bad .illFormedStorageAnswer
        | some a => .ok (.cmdStart (some a)) rest
    else .bad .answerWithoutOpen

/-- LINK format: the answer word and its N bytes (30_encoding.md R117, R118). -/
def decodeLink (bs : List Byte) : Decoded :=
  match takeWord bs with
  | none => .bad .missingBytes
  | some (w, bs') =>
    if w.extractLsb' 16 15 ≠ 0#15 then .bad .illFormedLinkAnswer
    else if w.getLsbD 31 then
      if w.extractLsb' 0 16 ≠ 0#16 then .bad .illFormedLinkAnswer else .ok .rxFail bs'
    else if bs'.length < (w.extractLsb' 0 16).toNat then .bad .missingBytes
    else .ok (.rxData (bs'.take (w.extractLsb' 0 16).toNat)) (bs'.drop (w.extractLsb' 0 16).toNat)

/-- STORAGE format: one answer word (30_encoding.md R119). -/
def decodeStorage (bs : List Byte) : Decoded :=
  match takeWord bs with
  | none => .bad .missingBytes
  | some (w, rest) =>
    match storageAnswerOf w with
    | none => .bad .illFormedStorageAnswer
    | some .ok => .ok .saOpenOk rest
    | some .fail => .ok .saOpenFail rest

/-- HOSTBUS_WR format: offset and data (30_encoding.md R110, R111). -/
def decodeHostbusWr (bs : List Byte) : Decoded :=
  match bs with
  | [] => .bad .missingBytes
  | offset :: bs' =>
    match registerNumber offset with
    | none => .bad .misalignedOffset
    | some n =>
      match takeWord bs' with
      | none => .bad .missingBytes
      | some (d, rest) => .ok (hostWriteOf n d) rest

/-- HOSTBUS_WR format with a storage answer attached: only a write to CMD can ask for an open. DESIGN CHOICE, log entry 22: the
word written is not looked at here, so a write that opens nothing keeps its answer, and its meaning drops it. -/
def decodeHostbusWrAnswered (bs : List Byte) : Decoded :=
  match bs with
  | [] => .bad .missingBytes
  | offset :: bs' =>
    if offset = 0#8 then
      match takeWord bs' with
      | none => .bad .missingBytes
      | some (d, bs'') =>
        match takeWord bs'' with
        | none => .bad .missingBytes
        | some (v, rest) =>
          match storageAnswerOf v with
          | none => .bad .illFormedStorageAnswer
          | some a => .ok (.wrCmd d (some a)) rest
    else .bad .answerWithoutOpen

/-- HOSTBUS_RD format: the offset (30_encoding.md R110, R111). -/
def decodeHostbusRd (bs : List Byte) : Decoded :=
  match bs with
  | [] => .bad .missingBytes
  | offset :: rest =>
    match registerNumber offset with
    | none => .bad .misalignedOffset
    | some n => .ok (.rd n) rest

/-- STOREREAD format: segment, offset, length (20_memory.md R90). DESIGN CHOICE, log entry 11: three words. -/
def decodeStoreRead (bs : List Byte) : Decoded :=
  match takeWord bs with
  | none => .bad .missingBytes
  | some (seg, bs1) =>
    match takeWord bs1 with
    | none => .bad .missingBytes
    | some (off, bs2) =>
      match takeWord bs2 with
      | none => .bad .missingBytes
      | some (n, rest) => .ok (.read seg off n) rest

/-- INTERNAL format: which step (30_encoding.md R131). DESIGN CHOICE, log entry 11: 0 CHECK, 1 DELIVER, 2 ROTATE, 3 RESET. -/
def decodeInternal (bs : List Byte) : Decoded :=
  match bs with
  | [] => .bad .missingBytes
  | k :: rest =>
    match k.toNat with
    | 0 => .ok .stepCheck rest
    | 1 => .ok .stepDeliver rest
    | 2 => .ok (.stepRotate none) rest
    | 3 => .ok .stepReset rest
    | _ => .bad .unknownStep

/-- INTERNAL format with a storage answer attached: only ROTATE asks for an open, and with another step the answer is refused.
DESIGN CHOICE, log entry 22: the spec has no such transaction. -/
def decodeInternalAnswered (bs : List Byte) : Decoded :=
  match bs with
  | [] => .bad .missingBytes
  | k :: bs' =>
    if k = 2#8 then
      match takeWord bs' with
      | none => .bad .missingBytes
      | some (v, rest) =>
        match storageAnswerOf v with
        | none => .bad .illFormedStorageAnswer
        | some a => .ok (.stepRotate (some a)) rest
    else .bad .answerWithoutOpen

/-- The decoder: the first transaction of a byte sequence and the bytes after it, or the reason why there is none. -/
def decode (bs : List Byte) : Decoded :=
  match bs with
  | [] => .bad .unknownFormat
  | t :: rest =>
    match formatOfTag t with
    | none => .bad .unknownFormat
    | some .cmd => decodeCmd rest
    | some .link => decodeLink rest
    | some .storage => decodeStorage rest
    | some .hostbusWr => decodeHostbusWr rest
    | some .hostbusRd => decodeHostbusRd rest
    | some .storeRead => decodeStoreRead rest
    | some .internal => decodeInternal rest
    | some .cmdAnswered => decodeCmdAnswered rest
    | some .hostbusWrAnswered => decodeHostbusWrAnswered rest
    | some .internalAnswered => decodeInternalAnswered rest

/-- A command word's transaction (30_encoding.md R115). -/
def encodeCmd (w : Word) : List Byte := formatTag .cmd :: wordBytes w

/-- A host write's transaction (30_encoding.md R110). -/
def encodeHostbusWr (n : BitVec 6) (d : Word) : List Byte :=
  formatTag .hostbusWr :: registerOffset n :: wordBytes d

/-- The format an instruction is encoded in. -/
def Instr.format : Instr → Format
  | .cmdNop => .cmd
  | .cmdStart none => .cmd
  | .cmdStart (some _) => .cmdAnswered
  | .cmdCancel => .cmd
  | .cmdClrerr => .cmd
  | .cmdSoftreset => .cmd
  | .rxData _ => .link
  | .rxFail => .link
  | .saOpenOk => .storage
  | .saOpenFail => .storage
  | .wrCmd _ none => .hostbusWr
  | .wrCmd _ (some _) => .hostbusWrAnswered
  | .wrHdr0 _ => .hostbusWr
  | .wrHdr1 _ => .hostbusWr
  | .wrBudget _ => .hostbusWr
  | .wrSegBytes _ => .hostbusWr
  | .wrSegCount _ => .hostbusWr
  | .wrIrq _ => .hostbusWr
  | .wrReadonlyOrReserved _ _ => .hostbusWr
  | .rd _ => .hostbusRd
  | .read _ _ _ => .storeRead
  | .stepCheck => .internal
  | .stepDeliver => .internal
  | .stepRotate none => .internal
  | .stepRotate (some _) => .internalAnswered
  | .stepReset => .internal

/-- The encoder, from the same tables of 30_encoding.md: the bytes of a well-formed transaction. -/
def encode : Instr → List Byte
  | .cmdNop => encodeCmd 0#32
  | .cmdStart none => encodeCmd 1#32
  | .cmdStart (some a) => formatTag .cmdAnswered :: (wordBytes 1#32 ++ wordBytes (storageAnswerWord a))
  | .cmdCancel => encodeCmd 2#32
  | .cmdClrerr => encodeCmd 3#32
  | .cmdSoftreset => encodeCmd 4#32
  | .rxData data => formatTag .link :: (wordBytes (BitVec.ofNat 32 data.length) ++ data)
  | .rxFail => formatTag .link :: wordBytes 0x80000000#32
  | .saOpenOk => formatTag .storage :: wordBytes 1#32
  | .saOpenFail => formatTag .storage :: wordBytes 0#32
  | .wrCmd d none => encodeHostbusWr 0#6 d
  | .wrCmd d (some a) =>
    formatTag .hostbusWrAnswered :: registerOffset 0#6 :: (wordBytes d ++ wordBytes (storageAnswerWord a))
  | .wrHdr0 d => encodeHostbusWr 2#6 d
  | .wrHdr1 d => encodeHostbusWr 3#6 d
  | .wrBudget d => encodeHostbusWr 4#6 d
  | .wrSegBytes d => encodeHostbusWr 5#6 d
  | .wrSegCount d => encodeHostbusWr 6#6 d
  | .wrIrq d => encodeHostbusWr 12#6 d
  | .wrReadonlyOrReserved n d => encodeHostbusWr n d
  | .rd n => [formatTag .hostbusRd, registerOffset n]
  | .read seg off n => formatTag .storeRead :: (wordBytes seg ++ wordBytes off ++ wordBytes n)
  | .stepCheck => [formatTag .internal, 0#8]
  | .stepDeliver => [formatTag .internal, 1#8]
  | .stepRotate none => [formatTag .internal, 2#8]
  | .stepRotate (some a) => formatTag .internalAnswered :: 2#8 :: wordBytes (storageAnswerWord a)
  | .stepReset => [formatTag .internal, 3#8]

/-- The bytes of the transaction that a row's bits `w` of spec/opcode_table.json stand for, every bit above `nbits` zero. Rows
of different formats have the same bits, and the table's bits do not say the format: the row that fixes the most bits is
taken, and of two such rows the first in the table (DESIGN CHOICE, log entry 12). So with 32 bits a command word, then the
link answers; with 8 bits (or 40, the data above the offset) a host write to a register a row names, then a host read. Bits
that no row has give one byte that names no format. -/
def tableBytes (nbits w : Nat) : List Byte :=
  match nbits with
  | 32 =>
    if w ≤ 4 then encodeCmd (BitVec.ofNat 32 w)
    else if w = 0x80000000 then formatTag .link :: wordBytes 0x80000000#32
    else if w < 0x10000 then formatTag .link :: (wordBytes (BitVec.ofNat 32 w) ++ List.replicate w 0#8)
    else [0x7F#8]
  | 8 =>
    match w with
    | 0x00 | 0x08 | 0x0C | 0x10 | 0x14 | 0x18 | 0x30 =>
      formatTag .hostbusWr :: BitVec.ofNat 8 w :: wordBytes 0#32
    | _ => [formatTag .hostbusRd, BitVec.ofNat 8 w]
  | 40 => formatTag .hostbusWr :: BitVec.ofNat 8 w :: wordBytes (BitVec.ofNat 32 (w / 256))
  | _ => [0x7F#8]

/-- The instruction the decoder reads from a row's bits (`tableBytes`), `none` where it refuses them. -/
def decodeTableWord (nbits w : Nat) : Option Instr :=
  match decode (tableBytes nbits w) with
  | .ok i _ => some i
  | .bad _ => none

end Sys2Proof
end

