-- ==== Sys2Proof/Machine/State.lean ====
section
/-! DEFINITION. The state of FSYNC-ROT (10_state.md R30 to R49), the reasons a step can stop, and the state after reset
(10_state.md R56). -/

namespace Sys2Proof.Machine

/-- The controller phase ph, the block's analogue of a program counter (10_state.md R31). -/
inductive Phase where
  | idle | check | sync | deliver | rotate | done | fault
  deriving DecidableEq, Repr

/-- The rotator state rot (10_state.md R41). -/
inductive Rot where
  | noSegment | segmentOpen | segmentFull | terminated
  deriving DecidableEq, Repr

/-- The exit code EXIT (60_exceptions.md R311). Codes 6 and 7 are never written, so they are no constructors. -/
inductive ExitCode where
  | none | budgetReached | capacityExhausted | cancelled | linkFailure | storageAllocFailure
  deriving DecidableEq, Repr

/-- The bytes of one segment as (offset, byte) pairs in the form `Memory.wf`: offsets strictly rising, no byte 0x00. An
unlisted offset reads 0x00, what a successful open gives every byte (20_memory.md R89). -/
abbrev Memory := List Host.Cell

/-- One entry of the segment store (10_state.md R49). -/
structure Segment where
  /-- exists[s]. -/
  present : Bool
  /-- active[s]: the segment is mapped. -/
  active : Bool
  /-- seglen[s]: SEG_BYTES when the segment was last opened. -/
  len : Word
  /-- Seg[s]: the bytes. -/
  bytes : Memory
  deriving DecidableEq, Repr

/-- A segment that does not exist: exists = 0, active = 0 (10_state.md R56). Its length and bytes are unspecified and no
step reads them; the values here are a DESIGN CHOICE (log entries 6 and 8). -/
def Segment.absent : Segment := { present := false, active := false, len := 0#32, bytes := [] }

/-- The MODEL's own: what the last host read returned (log entry 10). -/
inductive HostReply where
  | none
  /-- A RD returned this word. -/
  | word (w : Word)
  /-- A StoreRead returned these bytes. -/
  | bytes (bs : List Byte)
  deriving DecidableEq, Repr

/-- The state. The fields up to `segs` are the state of 10_state.md R30; `param`, `segBytesMax` and `segCountMax` are the
implementation parameters (00_scope.md R8), which a run finds as they are; the last four are the model's own. -/
structure State where
  /-- ph (R31). -/
  ph : Phase
  /-- W (R33). -/
  window : List Byte
  /-- F, FRAME_LEN bytes (R34). -/
  frame : List Byte
  /-- FH (R34). -/
  fh : Bool
  /-- PK_ADDR, 6 bytes (R35). -/
  pkAddr : List Byte
  /-- PK_SAMPLE[0..127] (R35). -/
  pkSample : List Word
  /-- HDR0 (R36, R51). -/
  hdr0 : Word
  /-- HDR1[15:0]; bits [31:16] are reserved and read 0 (R36, R51). -/
  hdr1 : BitVec 16
  /-- BUDGET (R37). -/
  budget : Word
  /-- SEG_BYTES (R38). -/
  segBytes : Word
  /-- SEG_COUNT (R39). -/
  segCount : Word
  /-- SLOTS, latched by START (R40). -/
  slots : Word
  /-- CAPACITY, latched by START (R40). -/
  capacity : Word
  /-- rot (R41). -/
  rot : Rot
  /-- seg_index (R42). -/
  segIndex : Word
  /-- cursor (R43). -/
  cursor : Word
  /-- SW (R44). -/
  sw : Word
  /-- EXIT (R45). -/
  exitCode : ExitCode
  /-- cancel_req (R46). -/
  cancelReq : Bool
  /-- CMD_ERR (R47). -/
  cmdErr : Bool
  /-- CFG_ERR (R47). -/
  cfgErr : Bool
  /-- IRQ_EN (R48). -/
  irqEn : Bool
  /-- IRQ_PEND (R48). -/
  irqPend : Bool
  /-- The segment store, SEG_COUNT_MAX entries (R49). -/
  segs : List Segment
  /-- PARAM: READ_MAX in [15:0], KEEP in [31:16] (R51). No step writes it: it is what the implementation fixes (log entry 5). -/
  param : Word
  /-- SEG_BYTES_MAX, the largest legal SEG_BYTES: a parameter that no step writes (00_scope.md R8; log entry 15). -/
  segBytesMax : Nat
  /-- SEG_COUNT_MAX, the largest legal SEG_COUNT and the number of store entries: a parameter that no step writes (00_scope.md
  R8, 10_state.md R49; log entry 15). -/
  segCountMax : Nat
  /-- The MODEL's own: a START the host has written waits for the storage agent's answer. It is one bit, so a second START without
  an answer is the same request (DESIGN CHOICE, log entry 2). -/
  startWaiting : Bool
  /-- The MODEL's own: what the last host read returned (log entry 10). -/
  reply : HostReply
  /-- The MODEL's own: how many free values have been drawn (log entry 7). -/
  draws : Nat
  /-- The MODEL's own: the bytes of the coming transactions of all agents, in the total order of 20_memory.md R91 (log entry 1). -/
  input : List Byte
  deriving DecidableEq, Repr

/-- The machine right after reset (10_state.md R56, R51). F, the packet registers, SLOTS, CAPACITY, the absent segments'
contents, PARAM and the model's own fields hold values the spec does not give: DESIGN CHOICE (log entries 5 and 6). -/
def State.reset : State where
  ph := .idle
  window := []
  frame := List.replicate Config.frameLen 0#8
  fh := false
  pkAddr := List.replicate Config.headerLen 0#8
  pkSample := List.replicate Config.samplesPerRow 0#32
  hdr0 := 0x12E18000#32
  hdr1 := 0x5634#16
  budget := 0x00100000#32
  segBytes := 0x01000000#32
  segCount := 32#32
  slots := 0#32
  capacity := 0#32
  rot := .noSegment
  segIndex := 0#32
  cursor := 0#32
  sw := 0#32
  exitCode := .none
  cancelReq := false
  cmdErr := false
  cfgErr := false
  irqEn := false
  irqPend := false
  segs := List.replicate Config.resetSegCountMax Segment.absent
  param := Config.resetParam
  segBytesMax := Config.resetSegBytesMax
  segCountMax := Config.resetSegCountMax
  startWaiting := false
  reply := .none
  draws := 0
  input := []

/-- Faults: accesses outside the segment store (20_memory.md R80). No state a run from reset reaches raises one (log entry
9). Both are safe: the model stops where the spec has no such location. -/
inductive Fault where
  /-- Raised by STEP.DELIVER: its slot is not inside a mapped segment. Safe. -/
  | slotOutsideSegment
  /-- Raised by STEP.ROTATE and the SA answers: the segment to open has a number of SEG_COUNT_MAX or more. Safe. -/
  | segmentOutsideStore
  deriving DecidableEq, Repr

/-- Refusals: the spec says that the transaction has no step in this state (00_scope.md R18). Each is safe: the run ends
where the spec has no such run. -/
inductive Refusal where
  /-- Raised by an arm of `exec` whose instruction has no meaning yet; there is none. Safe. -/
  | notModelled (mnemonic : String)
  /-- Raised by `step`: the bytes of `input` are no transaction (see `DecodeError`). Safe. -/
  | badTransaction (e : DecodeError)
  /-- Raised by RX.DATA and RX.FAIL outside ph = SYNC: no read request is outstanding (40_link_interface.md R151). Safe. -/
  | noReadOutstanding
  /-- Raised by RX.DATA with N > READ_MAX: an ill-formed answer has no step (30_encoding.md R118). Safe. -/
  | answerExceedsReadMax
  /-- Raised by SA.OPEN_OK and SA.OPEN_FAIL when no open is requested (43_storage_rotator.md R220). Safe. -/
  | noOpenRequested
  /-- Raised by STEP.CHECK, STEP.DELIVER and STEP.ROTATE in another phase: the step is not enabled (30_encoding.md R131). Safe. -/
  | stepNotEnabled
  /-- Raised by READ: s ≥ SEG_COUNT_MAX or exists[s] = 0 (20_memory.md R90). Safe. -/
  | readOfAbsentSegment
  /-- Raised by READ: active[s] = 1 (20_memory.md R90). Safe. -/
  | readOfActiveSegment
  /-- Raised by READ: n = 0 or off + n > seglen[s] (20_memory.md R90). Safe. -/
  | readOutsideSegment
  deriving DecidableEq, Repr

end Sys2Proof.Machine
end

