-- ==== Sys2Proof/Machine/Operands.lean ====
section
/-! DEFINITION. What the steps read: the header bytes, the parameters, the configuration check, the header scan, the kept
tail, the frame's fields and the segment store's locations. -/

namespace Sys2Proof.Machine

/-- HDR[0..5], assembled from HDR0 and HDR1 (10_state.md R36, 30_encoding.md R126). -/
def State.hdr (s : State) : List Byte :=
  wordBytes s.hdr0 ++ [s.hdr1.extractLsb' 0 8, s.hdr1.extractLsb' 8 8]

/-- READ_MAX = PARAM[15:0] (10_state.md R51, 00_scope.md R8). -/
def State.readMax (s : State) : Nat := (s.param.extractLsb' 0 16).toNat

/-- KEEP = PARAM[31:16] (10_state.md R51, 00_scope.md R8). -/
def State.keep (s : State) : Nat := (s.param.extractLsb' 16 16).toNat

/-- WCAP = KEEP + FRAME_LEN + 2 × READ_MAX − 7 (00_scope.md R8). -/
def State.wcap (s : State) : Nat := s.keep + Config.frameLen + 2 * s.readMax - 7

/-- The phases in which a session runs (10_state.md R31). -/
def Phase.running : Phase → Bool
  | .check | .sync | .deliver | .rotate => true
  | .idle | .done | .fault => false

/-- "Running": ph ∈ {CHECK, SYNC, DELIVER, ROTATE} (10_state.md R31). -/
def State.running (s : State) : Bool := s.ph.running

/-- The configuration check of START: the legal values of SEG_BYTES and SEG_COUNT (10_state.md R38, R39). -/
def State.configLegal (s : State) : Bool :=
  decide (512 ≤ s.segBytes.toNat) && decide (s.segBytes.toNat ≤ s.segBytesMax) &&
    decide (s.segBytes.toNat % 512 = 0) && decide (1 ≤ s.segCount.toNat) &&
    decide (s.segCount.toNat ≤ s.segCountMax)

/-- The header scan from offset `o` on (41_frame_sync.md R171), left to right. -/
def firstMatchFrom (hdr : List Byte) (o : Nat) : List Byte → Option Nat
  | [] => none
  | b :: w => if hdr.isPrefixOf (b :: w) then some o else firstMatchFrom hdr (o + 1) w

/-- first_match(W, HDR): the least offset at which the header stands whole in W (41_frame_sync.md R171). -/
def firstMatch (hdr w : List Byte) : Option Nat := firstMatchFrom hdr 0 w

/-- tail_K(W), the last min(K, len(W)) bytes of W (00_scope.md R12). -/
def tailBytes (k : Nat) (w : List Byte) : List Byte := w.drop (w.length - k)

/-- W[o ..< o + FRAME_LEN], the frame at offset `o` (41_frame_sync.md R174). -/
def frameAt (w : List Byte) (o : Nat) : List Byte := (w.drop o).take Config.frameLen

/-- The 32-bit patterns of the payload bytes, four bytes a sample, little-endian (30_encoding.md R122). -/
def samplesOf : List Byte → List Word
  | b0 :: b1 :: b2 :: b3 :: rest => le32 b0 b1 b2 b3 :: samplesOf rest
  | _ => []

/-- The bytes of samples in order, b(w) for each (42_decode.md R204): what a slot holds (20_memory.md R82). -/
def bytesOfSamples (ws : List Word) : List Byte := ws.flatMap wordBytes

/-- The address of a frame: its first HEADER_LEN bytes (42_decode.md R200). -/
def frameAddress (f : List Byte) : List Byte := f.take Config.headerLen

/-- The samples of a frame: the PAYLOAD_LEN bytes after the header, reassembled (42_decode.md R200). -/
def frameSamples (f : List Byte) : List Word := samplesOf (f.drop Config.headerLen)

/-- encode(addr, samples), the encoder for hosts and tests (42_decode.md R204). -/
def encodeFrame (addr : List Byte) (samples : List Word) : List Byte :=
  addr.take Config.headerLen ++ bytesOfSamples samples

/-- Entry s of the segment store; beyond SEG_COUNT_MAX nothing exists (10_state.md R49). -/
def State.seg (s : State) (i : Nat) : Segment := s.segs.getD i Segment.absent

/-- The first byte of slot `cursor` (30_encoding.md R123). -/
def slotBase (cursor : Word) : Nat := Config.slotBytes * cursor.toNat

/-- The slot at the cursor lies inside the mapped segment seg_index (20_memory.md R80, 30_encoding.md R124). -/
def State.slotMapped (s : State) : Bool :=
  (s.seg s.segIndex.toNat).active &&
    decide (slotBase s.cursor + Config.slotBytes ≤ (s.seg s.segIndex.toNat).len.toNat)

/-- A ROTATE at this state opens a next segment: seg_index + 1 is not SEG_COUNT (43_storage_rotator.md R222). -/
def State.rotationOpens (s : State) : Bool := s.segIndex + 1#32 != s.segCount

/-- The storage file of segment s: `segment-<s+1>`, decimal without leading zeros (30_encoding.md R125). -/
def segmentFileName (i : Nat) : String := "segment-" ++ toString (i + 1)

end Sys2Proof.Machine
end

