-- ==== Sys2Proof/Machine/Flags.lean ====
section
/-! DEFINITION. The flag and status words the host reads: STATUS (10_state.md R52), the IRQ register and the interrupt
output (R48), with the codes of their fields (R31, R41, 60_exceptions.md R311). -/

namespace Sys2Proof.Machine

/-- STATUS.PHASE (10_state.md R31). -/
def phaseCode : Phase → BitVec 3
  | .idle => 0#3
  | .check => 1#3
  | .sync => 2#3
  | .deliver => 3#3
  | .rotate => 4#3
  | .done => 5#3
  | .fault => 6#3

/-- STATUS.ROT (10_state.md R41). -/
def rotCode : Rot → BitVec 2
  | .noSegment => 0#2
  | .segmentOpen => 1#2
  | .segmentFull => 2#2
  | .terminated => 3#2

/-- STATUS.EXIT (60_exceptions.md R311). -/
def exitCodeBits : ExitCode → BitVec 3
  | .none => 0#3
  | .budgetReached => 1#3
  | .capacityExhausted => 2#3
  | .cancelled => 3#3
  | .linkFailure => 4#3
  | .storageAllocFailure => 5#3

/-- MATCH_WAIT: ph = SYNC and W holds a match (10_state.md R52, 90_conflicts.md C11). -/
def matchWait (s : State) : Bool :=
  decide (s.ph = .sync) && (firstMatch s.hdr s.window).isSome

/-- STATUS, computed from the state at the moment of the read (10_state.md R52): PHASE [2:0], ROT [4:3], EXIT [7:5],
CANCEL_PEND [8], CMD_ERR [9], CFG_ERR [10], FRAME_HELD [11], MATCH_WAIT [12], [31:13] zero. -/
def statusWord (s : State) : Word :=
  0#19 ++ BitVec.ofBool (matchWait s) ++ BitVec.ofBool s.fh ++ BitVec.ofBool s.cfgErr ++ BitVec.ofBool s.cmdErr ++
    BitVec.ofBool s.cancelReq ++ exitCodeBits s.exitCode ++ rotCode s.rot ++ phaseCode s.ph

/-- The IRQ register: EN [0], PEND [1], [31:2] read 0 (10_state.md R51). -/
def irqWord (s : State) : Word := 0#30 ++ BitVec.ofBool s.irqPend ++ BitVec.ofBool s.irqEn

/-- The interrupt output, a level: IRQ_EN ∧ IRQ_PEND (10_state.md R48, 60_exceptions.md R318). -/
def irqOutput (s : State) : Bool := s.irqEn && s.irqPend

end Sys2Proof.Machine
end

