-- ==== Sys2Proof/Machine/Ops.lean ====
section
/-! DEFINITION. The named operations: bytes of a segment, the segment store, the free values, the SYNC step, DECODE and
APPEND, the opening of a segment, the two ways a session ends (the block's exceptions: `fatal`, `endSession`), the ways
out of an ended session (`startSession`, `softReset`, `hardReset`), and the registers as the host reads and writes them. -/

namespace Sys2Proof.Machine

/-! ### The bytes of one segment -/

/-- The byte at an offset; an unlisted offset reads 0x00 (20_memory.md R89). -/
def Memory.read : Memory → Nat → Byte
  | [], _ => 0#8
  | (k, b) :: m, a => if k = a then b else Memory.read m a

/-- The listed form of the bytes `bs` from offset `a` on. -/
def Memory.cells (a : Nat) : List Byte → Memory
  | [] => []
  | b :: bs => if b = 0#8 then Memory.cells (a + 1) bs else (a, b) :: Memory.cells (a + 1) bs

/-- The bytes with `bs` written from offset `a` on, in the canonical form. -/
def Memory.write (m : Memory) (a : Nat) (bs : List Byte) : Memory :=
  m.filter (fun c => decide (c.1 < a)) ++ (Memory.cells a bs ++ m.filter (fun c => decide (a + bs.length ≤ c.1)))

/-- The bytes with offsets 0 ..< `n` zero-filled (20_memory.md R89). -/
def Memory.zeroFill (m : Memory) (n : Nat) : Memory := m.filter (fun c => decide (n ≤ c.1))

/-- The `n` bytes from offset `a` on, in ascending offset order (20_memory.md R84). -/
def Memory.readBytes (m : Memory) (a n : Nat) : List Byte := (List.range n).map fun i => m.read (a + i)

/-- The canonical form: offsets strictly rising, no listed byte 0x00. -/
abbrev Memory.wf (m : Memory) : Prop := m.Pairwise (fun c d => c.1 < d.1) ∧ ∀ c ∈ m, c.2 ≠ 0#8

/-! ### The segment store (00_scope.md R15) -/

/-- Entry `i` of the store replaced. -/
def setSeg (i : Nat) (g : Segment) (s : State) : State := { s with segs := s.segs.set i g }

/-- The byte of segment `i` at offset `off`. -/
def readStore (s : State) (i off : Nat) : Byte := (s.seg i).bytes.read off

/-- StoreOpen(s) answered OPEN_OK: the segment exists, is active, has the length SEG_BYTES and holds zeros
(43_storage_rotator.md R220, 20_memory.md R89). -/
def storeOpen (i : Nat) (s : State) : State :=
  setSeg i { present := true, active := true, len := s.segBytes,
             bytes := (s.seg i).bytes.zeroFill s.segBytes.toNat } s

/-- StoreWrite(s, off, n, S) (00_scope.md R15). -/
def storeWrite (i off : Nat) (bs : List Byte) (s : State) : State :=
  setSeg i { s.seg i with bytes := (s.seg i).bytes.write off bs } s

/-- StoreRelease(s): active[s] ← 0; exists[s] and the bytes stay (20_memory.md R89). -/
def storeRelease (i : Nat) (s : State) : State := setSeg i { s.seg i with active := false } s

/-- "if exists s with active[s] == 1: StoreRelease(s)" (60_exceptions.md R316, 45_host_commands.md R285). At most one
segment is active (10_state.md R49); each that is active is released. -/
def releaseActive (s : State) : State := { s with segs := s.segs.map fun g => { g with active := false } }

/-! ### Free values (10_state.md R57; log entry 7) -/

/-- F's FRAME_LEN bytes at draw `d`: unconstrained. -/
@[irreducible] def freeFrame (d : Nat) : List Byte := (List.range Config.frameLen).map (Config.freeFrameByte d)

/-- PK_ADDR's bytes at draw `d`: unconstrained. -/
@[irreducible] def freeAddress (d : Nat) : List Byte := (List.range Config.headerLen).map (Config.freeAddrByte d)

/-- PK_SAMPLE's words at draw `d`: unconstrained. -/
@[irreducible] def freeSamples (d : Nat) : List Word := (List.range Config.samplesPerRow).map (Config.freeSample d)

/-- FH ← 0: F's contents are unspecified from here on (10_state.md R34). -/
def forgetFrame (s : State) : State :=
  { s with fh := false, frame := freeFrame s.draws, draws := s.draws + 1 }

/-- ph leaves DELIVER: the packet registers are unspecified from here on (10_state.md R35). -/
def forgetPacket (s : State) : State :=
  { s with pkAddr := freeAddress s.draws, pkSample := freeSamples s.draws, draws := s.draws + 1 }

/-! ### Session ends and the interrupt: the block's exceptions -/

/-- The fatal path, `raise Fatal(code)` (60_exceptions.md R316): release the active segment, record the code, enter FAULT
and set IRQ_PEND. W, SW, seg_index and cursor keep their values. -/
def fatal (code : ExitCode) (s : State) : State :=
  { forgetFrame (releaseActive s) with
    rot := .noSegment, exitCode := code, cancelReq := false, ph := .fault, irqPend := true }

/-- `end_session(code)`, the normal end (44_acquisition_loop.md R254). -/
def endSession (code : ExitCode) (s : State) : State :=
  if s.rot = .segmentOpen then
    { storeRelease s.segIndex.toNat s with
      rot := .noSegment, exitCode := code, cancelReq := false, ph := .done, irqPend := true }
  else { s with exitCode := code, cancelReq := false, ph := .done, irqPend := true }

/-! ### The rotator (43_storage_rotator.md R220 to R222) -/

/-- `ph <- CHECK`, what START and ROTATE do after a successful open (45_host_commands.md R282, 43_storage_rotator.md R222). -/
def toCheck (s : State) : State := { s with ph := .check }

/-- `open_segment(s, a)`; `andThen` is what the invoking step does after a successful open, and a failed open raises
Fatal(STORAGE_ALLOC_FAILURE) with exists[s] ← 0 (43_storage_rotator.md R220, decision D26). -/
def openSegment (i : Nat) (a : StorageAnswer) (andThen : State → State) (s : State) : State :=
  match a with
  | .ok => andThen { storeOpen i s with cursor := 0#32, rot := .segmentOpen }
  | .fail => fatal .storageAllocFailure (setSeg i { s.seg i with present := false } s)

/-- `append()` (43_storage_rotator.md R221): PK_SAMPLE's bytes into the slot at the cursor, which then advances. With
rot ≠ SegmentOpen it is rejected and changes nothing (R223). -/
def append (s : State) : State :=
  if s.rot = .segmentOpen then
    let t := storeWrite s.segIndex.toNat (slotBase s.cursor) (bytesOfSamples s.pkSample) s
    { t with cursor := s.cursor + 1#32,
             rot := if s.cursor + 1#32 = s.slots then .segmentFull else .segmentOpen }
  else s

/-- The first half of ROTATE: release the full segment and count on (43_storage_rotator.md R222). -/
def releaseFull (s : State) : State :=
  { storeRelease s.segIndex.toNat s with segIndex := s.segIndex + 1#32 }

/-- The ROTATE step in ph = ROTATE (43_storage_rotator.md R222). Where a next segment is to be opened and no answer has
come, the step has not happened and the request stands (R220, 93_implementation_defined.md item 31). Where none is to be opened
an answer given with the step is dropped (R222: "needed only when a next segment is opened"; log entry 22). -/
def rotate (a : Option StorageAnswer) (s : State) : Host.Outcome State Fault Refusal :=
  if s.rotationOpens then
    match a with
    | none => .next s
    | some a =>
      if (s.segIndex + 1#32).toNat < s.segCountMax then
        .next (openSegment (s.segIndex + 1#32).toNat a toCheck (releaseFull s))
      else .fault .segmentOutsideStore
  else .next { releaseFull s with rot := .terminated, ph := .check }

/-! ### The synchronizer and the decoder -/

/-- The SYNC step on an answer's bytes (41_frame_sync.md R172): a miss trims the window, a match without a whole frame
waits, a whole frame is cut out. -/
def syncStep (data : List Byte) (s : State) : State :=
  match firstMatch s.hdr (s.window ++ data) with
  | none => { s with window := tailBytes s.keep (s.window ++ data) }
  | some o =>
    if (s.window ++ data).length - o < Config.frameLen then { s with window := s.window ++ data }
    else { s with frame := frameAt (s.window ++ data) o, window := tailBytes s.keep (s.window ++ data),
                  fh := true, ph := .deliver }

/-- DECODE (42_decode.md R200). -/
def decodeFrame (s : State) : State :=
  { s with pkAddr := frameAddress s.frame, pkSample := frameSamples s.frame }

/-! ### Commands (45_host_commands.md) -/

/-- `illegal_command()` (45_host_commands.md R286). -/
def illegalCommand (s : State) : State := { s with cmdErr := true }

/-- What START sets before it opens segment 0 (45_host_commands.md R282). The START is then no longer waiting (log entry 2). -/
def initSession (s : State) : State :=
  { forgetFrame s with
    slots := s.segBytes / 512#32, capacity := s.segCount * (s.segBytes / 512#32), window := [], sw := 0#32,
    segIndex := 0#32, cursor := 0#32, rot := .noSegment, exitCode := .none, cancelReq := false, startWaiting := false }

/-- The part of START after its checks (45_host_commands.md R282). -/
def startSession (a : StorageAnswer) (s : State) : State := openSegment 0 a toCheck (initSession s)

/-- START (45_host_commands.md R282). With no answer yet, the open of segment 0 is requested and nothing else has happened
(log entry 2). A START without an answer while one already waits changes nothing: the two are one request, the one answer that
comes performs one START, and no CMD_ERR tells of the other; an answered START while one waits is performed in its place, without
CMD_ERR too (DESIGN CHOICE, log entry 2). Where a check turns the START away it opens nothing, and an answer given with it is dropped (DESIGN CHOICE, log
entry 22). -/
def startCommand (a : Option StorageAnswer) (s : State) : State :=
  if s.running then illegalCommand s
  else if s.configLegal then
    match a with
    | none => { s with startWaiting := true }
    | some a => startSession a s
  else { s with cfgErr := true, startWaiting := false }

/-- CANCEL (45_host_commands.md R283). -/
def cancelCommand (s : State) : State := if s.running then { s with cancelReq := true } else illegalCommand s

/-- CLRERR (45_host_commands.md R284). -/
def clearErrors (s : State) : State := { s with cmdErr := false, cfgErr := false }

/-- SOFTRESET (45_host_commands.md R285). A START still waiting for its answer is withdrawn (log entry 2). -/
def softReset (s : State) : State :=
  { forgetFrame (releaseActive s) with
    ph := .idle, window := [], rot := .noSegment, segIndex := 0#32, cursor := 0#32, sw := 0#32, exitCode := .none,
    cancelReq := false, cmdErr := false, cfgErr := false, irqPend := false, startWaiting := false }

/-- Command dispatch of a host write to CMD (45_host_commands.md R280). An answer given with a word other than START's is dropped
(DESIGN CHOICE, log entry 22). -/
def commandWord (d : Word) (a : Option StorageAnswer) (s : State) : State :=
  if d.extractLsb' 8 24 ≠ 0#24 ∨ 4 < (d.extractLsb' 0 8).toNat then illegalCommand s
  else
    match (d.extractLsb' 0 8).toNat with
    | 0 => s
    | 1 => startCommand a s
    | 2 => cancelCommand s
    | 3 => clearErrors s
    | _ => softReset s

/-- Hardware reset (70_reset_and_hazards.md R340, 10_state.md R56). SLOTS, CAPACITY, F and the packet registers are
unspecified after it (free values, log entry 7); the store's lengths and bytes are unspecified and unreadable, and stay
(log entry 8). The parameters are what the implementation fixes; the coming transactions and the host's last reply are no state of
the block. -/
def hardReset (s : State) : State :=
  { forgetPacket (forgetFrame s) with
    ph := .idle, window := [], hdr0 := 0x12E18000#32, hdr1 := 0x5634#16, budget := 0x00100000#32,
    segBytes := 0x01000000#32, segCount := 32#32, slots := Config.freeSlots s.draws,
    capacity := Config.freeCapacity s.draws, rot := .noSegment, segIndex := 0#32, cursor := 0#32, sw := 0#32,
    exitCode := .none, cancelReq := false, cmdErr := false, cfgErr := false, irqEn := false, irqPend := false,
    segs := s.segs.map fun g => { g with present := false, active := false }, startWaiting := false }

/-! ### Storage answers -/

/-- The storage agent's answer to the outstanding open: it completes the START or the ROTATE that asked for it
(43_storage_rotator.md R220: "The invoking step has no step until the storage agent answers"). One answer completes one START,
however many were written while it was awaited, and a START whose configuration has become illegal sets CFG_ERR and drops it
(DESIGN CHOICE, log entry 2). -/
def storageAnswer (a : StorageAnswer) (s : State) : Host.Outcome State Fault Refusal :=
  if s.startWaiting then .next (startCommand (some a) s)
  else if s.ph = .rotate ∧ s.rotationOpens = true then rotate (some a) s
  else .refused .noOpenRequested

/-! ### The registers as the host sees them -/

/-- The value a RD of register number `n` returns (10_state.md R51, R52, 30_encoding.md R112). -/
def readRegister (n : BitVec 6) (s : State) : Word :=
  match n.toNat with
  | 1 => statusWord s
  | 2 => s.hdr0
  | 3 => s.hdr1.zeroExtend 32
  | 4 => s.budget
  | 5 => s.segBytes
  | 6 => s.segCount
  | 7 => s.sw
  | 8 => s.segIndex
  | 9 => s.cursor
  | 10 => BitVec.ofNat 32 s.window.length
  | 11 => s.param
  | 12 => irqWord s
  | _ => 0#32

/-- A write to a configuration register: lost, with CMD_ERR, while running (10_state.md R58). -/
def writeConfig (update : State → State) (s : State) : State := if s.running then illegalCommand s else update s

/-- A write to IRQ (45_host_commands.md R287). -/
def writeIrq (d : Word) (s : State) : State :=
  { s with irqEn := d.getLsbD 0, irqPend := if d.getLsbD 1 then false else s.irqPend }

end Sys2Proof.Machine
end

