-- ==== Sys2Proof/Machine/Command.lean ====
section
/-! DEFINITION. The host commands, CMD.* (45_host_commands.md R281 to R285). -/

namespace Sys2Proof.Machine

/-- CMD.NOP changes nothing (45_host_commands.md R281). -/
def execCmdNop (s : State) : Host.Outcome State Fault Refusal := .next s

/-- CMD.START (45_host_commands.md R282). -/
def execCmdStart (a : Option StorageAnswer) (s : State) : Host.Outcome State Fault Refusal := .next (startCommand a s)

/-- CMD.CANCEL (45_host_commands.md R283). -/
def execCmdCancel (s : State) : Host.Outcome State Fault Refusal := .next (cancelCommand s)

/-- CMD.CLRERR (45_host_commands.md R284). -/
def execCmdClrerr (s : State) : Host.Outcome State Fault Refusal := .next (clearErrors s)

/-- CMD.SOFTRESET (45_host_commands.md R285). -/
def execCmdSoftreset (s : State) : Host.Outcome State Fault Refusal := .next (softReset s)

end Sys2Proof.Machine
end

