-- ==== Sys2Proof/Machine/Controller.lean ====
section
/-! DEFINITION. The controller's internal steps, STEP.* (30_encoding.md R131), and what happens when no transaction comes. -/

namespace Sys2Proof.Machine

/-- STEP.CHECK (44_acquisition_loop.md R250): budget, then Terminated, then cancel, else a link read. -/
def execStepCheck (s : State) : Host.Outcome State Fault Refusal :=
  if s.ph = .check then
    .next (if ¬ s.sw < s.budget then endSession .budgetReached s
           else if s.rot = .terminated then endSession .capacityExhausted s
           else if s.cancelReq = true then endSession .cancelled s
           else { s with ph := .sync })
  else .refused .stepNotEnabled

/-- DELIVER's pseudocode (44_acquisition_loop.md R252): decode, append, count, let the frame go, and on to ROTATE or CHECK. -/
def deliver (s : State) : State :=
  let t := append (decodeFrame s)
  forgetPacket (forgetFrame { t with sw := t.sw + 1#32, ph := if t.rot = .segmentFull then .rotate else .check })

/-- STEP.DELIVER (44_acquisition_loop.md R252). A slot outside the mapped segment is no location of the store (log entry 9). -/
def execStepDeliver (s : State) : Host.Outcome State Fault Refusal :=
  if s.ph = .deliver then
    if s.rot = .segmentOpen ∧ s.slotMapped = false then .fault .slotOutsideSegment else .next (deliver s)
  else .refused .stepNotEnabled

/-- STEP.ROTATE (43_storage_rotator.md R222). -/
def execStepRotate (a : Option StorageAnswer) (s : State) : Host.Outcome State Fault Refusal :=
  if s.ph = .rotate then rotate a s else .refused .stepNotEnabled

/-- STEP.RESET: hardware reset, possible in every state (70_reset_and_hazards.md R340). -/
def execStepReset (s : State) : Host.Outcome State Fault Refusal := .next (hardReset s)

/-- No transaction comes: the controller takes its own step where one is enabled (30_encoding.md R131). Otherwise it waits for the
host, the link or the storage agent, and the run is kept without progress (93_implementation_defined.md items 6, 30, 31;
log entry 3). -/
def controllerStep (s : State) : Host.Outcome State Fault Refusal :=
  match s.ph with
  | .check => execStepCheck s
  | .deliver => execStepDeliver s
  | .rotate => execStepRotate none s
  | .idle | .sync | .done | .fault => .next s

end Sys2Proof.Machine
end

