-- ==== Sys2Proof/Machine/HostBus.lean ====
section
/-! DEFINITION. The host's register accesses, WR.* and RD (30_encoding.md R110 to R113, 10_state.md R58), and its StoreRead,
READ (20_memory.md R90). -/

namespace Sys2Proof.Machine

/-- WR.CMD (45_host_commands.md R280). -/
def execWrCmd (d : Word) (a : Option StorageAnswer) (s : State) : Host.Outcome State Fault Refusal :=
  .next (commandWord d a s)

/-- WR.HDR0 (10_state.md R58). -/
def execWrHdr0 (d : Word) (s : State) : Host.Outcome State Fault Refusal :=
  .next (writeConfig (fun t => { t with hdr0 := d }) s)

/-- WR.HDR1: data[31:16] is ignored (30_encoding.md R113, 10_state.md R58). -/
def execWrHdr1 (d : Word) (s : State) : Host.Outcome State Fault Refusal :=
  .next (writeConfig (fun t => { t with hdr1 := d.extractLsb' 0 16 }) s)

/-- WR.BUDGET (10_state.md R58). -/
def execWrBudget (d : Word) (s : State) : Host.Outcome State Fault Refusal :=
  .next (writeConfig (fun t => { t with budget := d }) s)

/-- WR.SEG_BYTES: any value may be written, START checks it (10_state.md R38, R58). -/
def execWrSegBytes (d : Word) (s : State) : Host.Outcome State Fault Refusal :=
  .next (writeConfig (fun t => { t with segBytes := d }) s)

/-- WR.SEG_COUNT (10_state.md R39, R58). -/
def execWrSegCount (d : Word) (s : State) : Host.Outcome State Fault Refusal :=
  .next (writeConfig (fun t => { t with segCount := d }) s)

/-- WR.IRQ, in every phase (45_host_commands.md R287). -/
def execWrIrq (d : Word) (s : State) : Host.Outcome State Fault Refusal := .next (writeIrq d s)

/-- WR.READONLY_OR_RESERVED: the write is ignored and no flag changes (30_encoding.md R113). -/
def execWrReadonlyOrReserved (_n : BitVec 6) (_d : Word) (s : State) : Host.Outcome State Fault Refusal := .next s

/-- RD: the register's value goes to the host; no side effect (45_host_commands.md R288, 20_memory.md R87). -/
def execRd (n : BitVec 6) (s : State) : Host.Outcome State Fault Refusal :=
  .next { s with reply := .word (readRegister n s) }

/-- READ: the bytes Seg[s][off ..< off+n] go to the host, under the conditions of 20_memory.md R90; no side effect (R87). -/
def execRead (seg off n : Word) (s : State) : Host.Outcome State Fault Refusal :=
  if ¬ (seg.toNat < s.segCountMax ∧ (s.seg seg.toNat).present = true) then .refused .readOfAbsentSegment
  else if (s.seg seg.toNat).active = true then .refused .readOfActiveSegment
  else if ¬ (1 ≤ n.toNat ∧ off.toNat + n.toNat ≤ (s.seg seg.toNat).len.toNat) then .refused .readOutsideSegment
  else .next { s with reply := .bytes ((s.seg seg.toNat).bytes.readBytes off.toNat n.toNat) }

end Sys2Proof.Machine
end

