-- ==== Sys2Proof/Machine/Link.lean ====
section
/-! DEFINITION. The link agent's answers, RX.* (40_link_interface.md R152, R154). An answer has a step only while a read is
outstanding, that is while ph = SYNC (R151). -/

namespace Sys2Proof.Machine

/-- RX.DATA (40_link_interface.md R152): a well-formed answer performs the SYNC step, with no bytes too (R153). -/
def execRxData (data : List Byte) (s : State) : Host.Outcome State Fault Refusal :=
  if s.ph = .sync then
    if data.length ≤ s.readMax then .next (syncStep data s) else .refused .answerExceedsReadMax
  else .refused .noReadOutstanding

/-- RX.FAIL (40_link_interface.md R154): Fatal(LINK_FAILURE). -/
def execRxFail (s : State) : Host.Outcome State Fault Refusal :=
  if s.ph = .sync then .next (fatal .linkFailure s) else .refused .noReadOutstanding

end Sys2Proof.Machine
end

