-- ==== Sys2Proof/Machine/Storage.lean ====
section
/-! DEFINITION. The storage agent's answers, SA.* (43_storage_rotator.md R220). -/

namespace Sys2Proof.Machine

/-- SA.OPEN_OK: the outstanding open succeeds (43_storage_rotator.md R220). -/
def execSaOpenOk (s : State) : Host.Outcome State Fault Refusal := storageAnswer .ok s

/-- SA.OPEN_FAIL: the outstanding open fails, Fatal(STORAGE_ALLOC_FAILURE) (43_storage_rotator.md R220). -/
def execSaOpenFail (s : State) : Host.Outcome State Fault Refusal := storageAnswer .fail s

end Sys2Proof.Machine
end

