-- ==== Sys2Proof/Machine/Dispatch.lean ====
section
/-! DEFINITION. The meaning of each transaction: one arm per constructor of Instr. -/

namespace Sys2Proof.Machine

def exec (i : Instr) (s : State) : Host.Outcome State Fault Refusal :=
  match i with
  | .cmdNop => Sys2Proof.Machine.execCmdNop s
  | .cmdStart a => Sys2Proof.Machine.execCmdStart a s
  | .cmdCancel => Sys2Proof.Machine.execCmdCancel s
  | .cmdClrerr => Sys2Proof.Machine.execCmdClrerr s
  | .cmdSoftreset => Sys2Proof.Machine.execCmdSoftreset s
  | .rxData data => Sys2Proof.Machine.execRxData data s
  | .rxFail => Sys2Proof.Machine.execRxFail s
  | .saOpenOk => Sys2Proof.Machine.execSaOpenOk s
  | .saOpenFail => Sys2Proof.Machine.execSaOpenFail s
  | .wrCmd d a => Sys2Proof.Machine.execWrCmd d a s
  | .wrHdr0 d => Sys2Proof.Machine.execWrHdr0 d s
  | .wrHdr1 d => Sys2Proof.Machine.execWrHdr1 d s
  | .wrBudget d => Sys2Proof.Machine.execWrBudget d s
  | .wrSegBytes d => Sys2Proof.Machine.execWrSegBytes d s
  | .wrSegCount d => Sys2Proof.Machine.execWrSegCount d s
  | .wrIrq d => Sys2Proof.Machine.execWrIrq d s
  | .wrReadonlyOrReserved n d => Sys2Proof.Machine.execWrReadonlyOrReserved n d s
  | .rd n => Sys2Proof.Machine.execRd n s
  | .read seg off n => Sys2Proof.Machine.execRead seg off n s
  | .stepCheck => Sys2Proof.Machine.execStepCheck s
  | .stepDeliver => Sys2Proof.Machine.execStepDeliver s
  | .stepRotate a => Sys2Proof.Machine.execStepRotate a s
  | .stepReset => Sys2Proof.Machine.execStepReset s

end Sys2Proof.Machine
end

