-- ==== Sys2Proof/Machine/Fetch.lean ====
section
/-! DEFINITION. Where the next transaction comes from: the head of `input` (log entry 1). -/

namespace Sys2Proof.Machine

/-- The next transaction of `input`; `none` when no transaction comes. -/
def fetch (s : State) : Option Decoded :=
  match s.input with
  | [] => none
  | b :: bs => some (decode (b :: bs))

/-- `s` with the bytes of a transaction before those still to come. -/
def placeTransaction (bs : List Byte) (s : State) : State := { s with input := bs ++ s.input }

end Sys2Proof.Machine
end

