-- ==== Sys2Proof/Machine/Step.lean ====
section
/-! DEFINITION. One step: the next transaction of `input` is decoded, taken off and run; with none to come the controller
takes its own step or waits (20_memory.md R91: all steps of all agents, in one total order). -/

namespace Sys2Proof.Machine

/-- One step of the block. -/
def step (s : State) : Host.Outcome State Fault Refusal :=
  match fetch s with
  | none => controllerStep s
  | some (.ok i rest) => exec i { s with input := rest }
  | some (.bad e) => .refused (.badTransaction e)

/-- `s` with the instruction of a row's bits as the next transaction (`tableBytes`). -/
def State.withFetchWord (s : State) (nbits w : Nat) : State := placeTransaction (tableBytes nbits w) s

end Sys2Proof.Machine
end

