-- ==== Sys2Proof/Machine/Script.lean ====
section
/-! DEFINITION. The pseudo-operations of the spec's scripts (30_encoding.md R129, R130), as the transactions they expand to. -/

namespace Sys2Proof.Machine

/-- `SETHDR b0 b1 b2 b3 b4 b5` (30_encoding.md R130). -/
def setHdr (b0 b1 b2 b3 b4 b5 : Byte) : List Instr := [.wrHdr0 (le32 b0 b1 b2 b3), .wrHdr1 (le32 b4 b5 0#8 0#8)]

/-- `CONFIG budget, segbytes, segcount` (30_encoding.md R130). -/
def config (budget segBytes segCount : Word) : List Instr :=
  [.wrBudget budget, .wrSegBytes segBytes, .wrSegCount segCount]

/-- `IRQON` (30_encoding.md R130). -/
def irqOn : Instr := .wrIrq 1#32

/-- `IRQACK`: EN stays 1, PEND is cleared (30_encoding.md R130). -/
def irqAck : Instr := .wrIrq 3#32

/-- `RX TIMEOUT`: a link answer with N = 0 (30_encoding.md R129, R130). -/
def rxTimeout : Instr := .rxData []

/-- `FRAME(p)`: the header bytes and the payload `p` (30_encoding.md R130). -/
def frameOf (s : State) (p : List Byte) : List Byte := s.hdr ++ p

/-- A script: the transactions as the bytes of `input`, in order (30_encoding.md R129). -/
def scriptBytes (is : List Instr) : List Byte := is.flatMap encode

end Sys2Proof.Machine
end

