-- ==== Sys2Proof/Safety.lean ====
section
/-! DEFINITION. What the statements call a session, a legal configuration, a header occurrence, states that differ in free
values only, a good state and a safe step. The good states are those of the invariants of 10_state.md R54 with those of
R31, R34, R41 to R46 and 41_frame_sync.md R178, in five parts that can be kept apart. -/

namespace Sys2Proof.Machine

/-- ph ∈ {CHECK, SYNC, DELIVER, ROTATE}: the controller is running (10_state.md R31). -/
def InSession (s : State) : Prop := s.ph = .check ∨ s.ph = .sync ∨ s.ph = .deliver ∨ s.ph = .rotate

/-- ph ∈ {IDLE, DONE, FAULT}: the controller is not running (10_state.md R31). -/
def Stopped (s : State) : Prop := s.ph = .idle ∨ s.ph = .done ∨ s.ph = .fault

/-- The legal values of SEG_BYTES and SEG_COUNT (10_state.md R38, R39). -/
def LegalConfig (s : State) : Prop :=
  512 ≤ s.segBytes.toNat ∧ s.segBytes.toNat ≤ s.segBytesMax ∧ s.segBytes.toNat % 512 = 0 ∧
    1 ≤ s.segCount.toNat ∧ s.segCount.toNat ≤ s.segCountMax

/-- The largest CAPACITY a legal configuration can have fits in 32 bits, as it does at the reference maxima (10_state.md R40;
log entry 15). -/
def CapacityFits (s : State) : Prop := s.segCountMax * (s.segBytesMax / 512) < 4294967296

/-- The header stands whole in `w` at offset `o` (41_frame_sync.md R171, 30_encoding.md R121). -/
def HeaderAt (hdr w : List Byte) (o : Nat) : Prop := o + 6 ≤ w.length ∧ ∀ i < 6, w[o + i]? = hdr[i]?

/-- `s` and `t` are the same but for values the spec leaves unspecified: F while FH = 0, the packet registers, SLOTS and
CAPACITY outside a session, and the model's count of draws (10_state.md R57). -/
def SameButFree (s t : State) : Prop :=
  { t with frame := s.frame, pkAddr := s.pkAddr, pkSample := s.pkSample, slots := s.slots, capacity := s.capacity,
           draws := s.draws } = s ∧
    (s.fh = true → t.frame = s.frame) ∧ (InSession s → t.slots = s.slots ∧ t.capacity = s.capacity)

/-- Two outcomes of the same kind, with the same reason or with next states related by `R`. -/
def OutcomeRel (R : State → State → Prop) : Host.Outcome State Fault Refusal → Host.Outcome State Fault Refusal → Prop
  | .next s, .next t => R s t
  | .fault r, .fault r' => r = r'
  | .refused r, .refused r' => r = r'
  | _, _ => False

/-- The segment store has SEG_COUNT_MAX entries (10_state.md R49) and each entry's bytes are in the canonical form. -/
def StoreShape (s : State) : Prop :=
  s.segs.length = s.segCountMax ∧ ∀ g ∈ s.segs, Memory.wf g.bytes

/-- The implementation's parameters are legal: READ_MAX at least 1, KEEP 518 or 1036 (00_scope.md R8, decisions D5, D7).
That READ_MAX is at most 65 535 is its width. -/
def ParamLegal (s : State) : Prop := 1 ≤ s.readMax ∧ (s.keep = 518 ∨ s.keep = 1036)

/-- The phase agrees with the rotator, the held frame, the exit code and the cancel flag (10_state.md R31, R34, R41, R45,
R46; 43_storage_rotator.md R221, R223; 60_exceptions.md R311). The last conjunct is about the model's own startWaiting (log
entry 2). -/
structure PhaseInv (s : State) : Prop where
  /-- FH = 1 exactly when ph = DELIVER (10_state.md R34). -/
  held_iff : s.fh = true ↔ s.ph = .deliver
  /-- SegmentFull holds exactly when ph = ROTATE (10_state.md R41). -/
  full_iff : s.rot = .segmentFull ↔ s.ph = .rotate
  /-- SYNC and DELIVER have an open segment (43_storage_rotator.md R221, R223). -/
  open_of_sync : s.ph = .sync ∨ s.ph = .deliver → s.rot = .segmentOpen
  /-- CHECK has an open segment, or the rotator is Terminated. -/
  rot_of_check : s.ph = .check → s.rot = .segmentOpen ∨ s.rot = .terminated
  /-- Before a session and after a fatal end no segment is mapped (60_exceptions.md R316). -/
  rot_of_idle : s.ph = .idle ∨ s.ph = .fault → s.rot = .noSegment
  /-- After a normal end the segment is released, or the rotator stays Terminated (44_acquisition_loop.md R254). -/
  rot_of_done : s.ph = .done → s.rot = .noSegment ∨ s.rot = .terminated
  /-- EXIT is NONE unless a session has ended (10_state.md R45). -/
  exit_none_iff : s.exitCode = .none ↔ s.ph ≠ .done ∧ s.ph ≠ .fault
  /-- DONE has a normal code (60_exceptions.md R311). -/
  exit_of_done : s.ph = .done →
    s.exitCode = .budgetReached ∨ s.exitCode = .capacityExhausted ∨ s.exitCode = .cancelled
  /-- FAULT has a fatal code (60_exceptions.md R311). -/
  exit_of_fault : s.ph = .fault → s.exitCode = .linkFailure ∨ s.exitCode = .storageAllocFailure
  /-- Only a running session has a cancel pending (10_state.md R46). -/
  cancel_running : s.cancelReq = true → s.running = true
  /-- Only outside a session does a START wait for its answer. No rule says this: startWaiting is the model's own field (DESIGN
  CHOICE, log entry 2). -/
  waiting_idle : s.startWaiting = true → s.running = false

/-- The window bound and the two forms of W at the start of a step (41_frame_sync.md R178, 10_state.md R33). -/
structure WindowInv (s : State) : Prop where
  /-- The parameters are legal. -/
  params : ParamLegal s
  /-- len(W) ≤ WCAP. -/
  bounded : s.window.length ≤ s.wcap
  /-- Between SYNC waits the window is a kept tail. -/
  kept : s.ph = .check ∨ s.ph = .deliver ∨ s.ph = .rotate → s.window.length ≤ s.keep
  /-- In SYNC the window is a kept tail, or holds a match without a whole frame. -/
  syncForm : s.ph = .sync → s.window.length ≤ s.keep ∨
    ∃ o, firstMatch s.hdr s.window = some o ∧ s.window.length - o < Config.frameLen ∧ o + 6 ≤ s.keep + s.readMax

/-- The session's counters, the mapped segment and the held frame (10_state.md R40, R42 to R44, R49, R54;
42_decode.md R201; 43_storage_rotator.md R226). -/
structure SessionInv (s : State) : Prop where
  /-- While running the configuration is legal and SLOTS and CAPACITY are those computed from it (10_state.md R40). -/
  config : s.running = true → s.configLegal = true ∧ s.slots = s.segBytes / 512#32 ∧ s.capacity = s.segCount * s.slots
  /-- active[s] = 1 for the mapped segment and no other (10_state.md R49). -/
  active_iff : ∀ i, (s.seg i).active = true ↔ (s.rot = .segmentOpen ∨ s.rot = .segmentFull) ∧ i = s.segIndex.toNat
  /-- The mapped segment exists, has the length SEG_BYTES and a number below SEG_COUNT. -/
  mapped : s.rot = .segmentOpen ∨ s.rot = .segmentFull →
    (s.seg s.segIndex.toNat).present = true ∧ (s.seg s.segIndex.toNat).len = s.segBytes ∧
      s.segIndex.toNat < s.segCount.toNat
  /-- An open segment has a free slot. -/
  cursor_open : s.rot = .segmentOpen → s.cursor.toNat < s.slots.toNat
  /-- A full segment has none. -/
  cursor_full : s.rot = .segmentFull → s.cursor = s.slots
  /-- SW = seg_index × SLOTS + cursor while a segment is mapped (10_state.md R54). -/
  count : s.rot = .segmentOpen ∨ s.rot = .segmentFull →
    s.sw.toNat = s.segIndex.toNat * s.slots.toNat + s.cursor.toNat
  /-- Terminated: every segment was filled (10_state.md R54, 43_storage_rotator.md R224). -/
  terminated : s.rot = .terminated → s.cursor = s.slots ∧ s.sw = s.capacity ∧
    (s.running = true → s.segIndex = s.segCount)
  /-- cursor ≤ SLOTS (10_state.md R43). -/
  cursor_le : s.cursor.toNat ≤ s.slots.toNat
  /-- seg_index ≤ SEG_COUNT_MAX. -/
  index_le : s.segIndex.toNat ≤ s.segCountMax
  /-- SW ≤ CAPACITY (10_state.md R54). -/
  sw_le_capacity : s.sw.toNat ≤ s.capacity.toNat
  /-- SW ≤ BUDGET in a session (10_state.md R54). -/
  sw_le_budget : s.running = true → s.sw.toNat ≤ s.budget.toNat
  /-- An iteration under way has room in the budget (44_acquisition_loop.md R252). -/
  sw_lt_budget : s.ph = .sync ∨ s.ph = .deliver → s.sw.toNat < s.budget.toNat
  /-- A slot of the open segment not yet written holds zeros (43_storage_rotator.md R226). -/
  unwritten : s.rot = .segmentOpen → ∀ off, slotBase s.cursor ≤ off → off < s.segBytes.toNat →
    readStore s s.segIndex.toNat off = 0#8
  /-- F is FRAME_LEN bytes long (10_state.md R34, 42_decode.md R202). -/
  frame_length : s.frame.length = Config.frameLen
  /-- The packet registers have their widths (10_state.md R35). -/
  packet_length : s.pkAddr.length = Config.headerLen ∧ s.pkSample.length = Config.samplesPerRow
  /-- A held frame begins with the header (41_frame_sync.md R174, 42_decode.md R201). -/
  frame_header : s.fh = true → frameAddress s.frame = s.hdr

/-- The counters against the SLOTS and CAPACITY that the last START latched, in every phase (10_state.md R40, R42, R43, R54). -/
structure LatchInv (s : State) : Prop where
  /-- The implementation's maxima let CAPACITY fit in its register (10_state.md R40). -/
  fits : CapacityFits s
  /-- cursor = SLOTS holds only in SegmentFull and Terminated (10_state.md R43, R54), and in FAULT after a ROTATE whose open
  failed: 60_exceptions.md R315 says that cursor is SLOTS there, and that seg_index ≥ 1 names the segment that failed to open
  (DEDUCED, log entry 14). In IDLE SLOTS may be unspecified. -/
  cursor_at_slots : s.ph ≠ .idle → s.cursor = s.slots →
    s.rot = .segmentFull ∨ s.rot = .terminated ∨
      (s.ph = .fault ∧ s.exitCode = .storageAllocFailure ∧ 1 ≤ s.segIndex.toNat ∧ (s.seg s.segIndex.toNat).present = false)
  /-- After reset or SOFTRESET no session has counted anything (10_state.md R56, 45_host_commands.md R285). -/
  idle_zero : s.ph = .idle → s.cursor = 0#32 ∧ s.segIndex = 0#32 ∧ s.sw = 0#32
  /-- Outside IDLE, SLOTS and CAPACITY are those of the last START that passed its check: CAPACITY = n × SLOTS for the SEG_COUNT
  n in force then, and seg_index ≤ n, whatever the host has written to SEG_COUNT since (10_state.md R40, R42, R54). -/
  latched : s.ph ≠ .idle → 1 ≤ s.slots.toNat ∧
    ∃ n, 1 ≤ n ∧ n ≤ s.segCountMax ∧ s.capacity.toNat = n * s.slots.toNat ∧ s.segIndex.toNat ≤ n

/-- The invariant of every state a run from reset reaches (10_state.md R54). -/
structure Inv (s : State) : Prop where
  store : StoreShape s
  phase : PhaseInv s
  window : WindowInv s
  session : SessionInv s
  latch : LatchInv s

/-- A step that does not fault. -/
def SafeStep (s : State) : Prop := ∀ r, step s ≠ .fault r

end Sys2Proof.Machine
end

