-- ==== Sys2Proof/Certificates/Slice0/Obligations.lean ====
section
/-! DEFINITION. The statements for the provers. Where a next state is described by
`{ t with f := s.f, … } = { s with … }`, every field of `t` but the listed `f` is as the right side says, which is the
statement's frame; the fields `f` are described after it, or are free values about which nothing is said (log entry 7).
`seg` and `readStore` are the model's reads of one store entry and of one byte. -/

open Sys2Proof Sys2Proof.Machine

/-! ### Encodings, decoding, the step -/

/-- Every well-formed transaction decodes to itself, whatever bytes follow it. The words inside a transaction are those of
30_encoding.md. The format byte before them (log entry 1), the attached storage answer (log entry 2) and the encodings of
READ and STEP.*, which have none in the spec (30_encoding.md R131; log entry 11), are the model's choices. -/
def Obligations.DecodeOfEncodeIsIdentity : Prop :=
  ∀ (i : Instr) (rest : List Byte), i.wellFormed = true → decode (encode i ++ rest) = .ok i rest

/-- Some words written out from the spec's encodings (30_encoding.md R115, R117, R119, R111), each after the model's own format
byte (log entry 1), decode to what they stand for; that the illegal command word 0x101 is WR.CMD with that word is log entry
13, and that the offset byte comes before the data word is log entry 11. -/
def Obligations.SpecWordsDecode : Prop :=
  decode [0x00, 0x01, 0x00, 0x00, 0x00] = .ok (.cmdStart none) [] ∧
  decode [0x00, 0x04, 0x00, 0x00, 0x00] = .ok .cmdSoftreset [] ∧
  decode [0x00, 0x01, 0x01, 0x00, 0x00] = .ok (.wrCmd 0x00000101#32 none) [] ∧
  decode [0x01, 0x02, 0x00, 0x00, 0x00, 0xAA, 0xBB, 0xCC] = .ok (.rxData [0xAA, 0xBB]) [0xCC] ∧
  decode [0x01, 0x00, 0x00, 0x00, 0x80] = .ok .rxFail [] ∧
  decode [0x02, 0x01, 0x00, 0x00, 0x00] = .ok .saOpenOk [] ∧
  decode [0x03, 0x14, 0xE8, 0x03, 0x00, 0x00] = .ok (.wrSegBytes 1000#32) [] ∧
  decode [0x04, 0x1C] = .ok (.rd 7#6) []

/-- A register access at an aligned offset decodes to register number offset[7:2]; at any other offset it is refused, read
or write (30_encoding.md R111). The format bytes 0x03 and 0x04 (log entry 1) and the layout of an access, the offset byte and
then the data word (log entry 11), are the model's choices. -/
def Obligations.OffsetDecode : Prop :=
  ∀ (offset : Byte) (rest : List Byte) (d : Word),
    (offset.toNat % 4 = 0 → ∃ n : BitVec 6, n.toNat = offset.toNat / 4 ∧
      decode (0x04#8 :: offset :: rest) = .ok (.rd n) rest ∧
      decode (0x03#8 :: offset :: (wordBytes d ++ rest)) = .ok (hostWriteOf n d) rest) ∧
    (offset.toNat % 4 ≠ 0 →
      decode (0x04#8 :: offset :: rest) = .bad .misalignedOffset ∧
      decode (0x03#8 :: offset :: rest) = .bad .misalignedOffset)

/-- The four ill-formed link answers have no step (30_encoding.md R118): more than READ_MAX bytes; RSVD not zero, or FAIL with N
not zero; fewer bytes than N. That an answer's word stands in the input after the format byte 0x01 is the model's choice (log
entry 1). -/
def Obligations.IllFormedLinkAnswersHaveNoStep : Prop :=
  (∀ (s : State) (data : List Byte), s.readMax < data.length →
      exec (.rxData data) s = .refused (if s.ph = .sync then .answerExceedsReadMax else .noReadOutstanding)) ∧
  (∀ (s : State) (w : Word) (bs : List Byte), s.input = 0x01#8 :: (wordBytes w ++ bs) →
      (w.toNat / 0x10000 % 0x8000 ≠ 0 ∨ (0x80000000 ≤ w.toNat ∧ w.toNat % 0x10000 ≠ 0) →
        step s = .refused (.badTransaction .illFormedLinkAnswer)) ∧
      (w.toNat < 0x10000 → bs.length < w.toNat → step s = .refused (.badTransaction .missingBytes)))

/-- When the coming bytes decode to an instruction, the step is the instruction's meaning on the state with its bytes taken
off the input (the input stream is the model's, log entry 1). -/
def Obligations.StepRunsDecodedInstruction : Prop :=
  ∀ (s : State) (i : Instr) (rest : List Byte), i.wellFormed = true → decode s.input = .ok i rest →
    step s = exec i { s with input := rest }

/-- The model's choice (log entry 3): with no transaction to come, the controller takes the internal step its phase enables
(30_encoding.md R131); in every other phase the block waits and nothing changes. -/
def Obligations.StepWithoutTransaction : Prop :=
  ∀ s : State, s.input = [] →
    (s.ph = .check → step s = exec .stepCheck s) ∧ (s.ph = .deliver → step s = exec .stepDeliver s) ∧
    (s.ph = .rotate → step s = exec (.stepRotate none) s) ∧ (Stopped s ∨ s.ph = .sync → step s = .next s)

/-! ### Host commands -/

/-- NOP changes nothing, in any phase (45_host_commands.md R281). -/
def Obligations.NopChangesNothing : Prop := ∀ s : State, exec .cmdNop s = .next s

/-- START with a legal configuration, outside a session, answered OPEN_OK: the session begins with segment 0 open and zero
(45_host_commands.md R282, 43_storage_rotator.md R220). The three ways the model takes the command: CMD.START or the word
0x00000001 written to CMD with the answer in the same step, or the answer to a START that waits (log entry 2). That the bytes
of segment 0 at and above SEG_BYTES stay as they were is the model's choice too (log entry 8). CAPACITY is the product
wherever it fits its register. -/
def Obligations.StartOpensSegmentZero : Prop :=
  ∀ (s : State) (i : Instr), Stopped s → LegalConfig s → s.segs.length = s.segCountMax →
    (i = .cmdStart (some .ok) ∨ i = .wrCmd 1#32 (some .ok) ∨ (i = .saOpenOk ∧ s.startWaiting = true)) →
    ∃ t, exec i s = .next t ∧
      { t with segs := s.segs, slots := s.slots, capacity := s.capacity, frame := s.frame, draws := s.draws } =
        { s with ph := .check, window := [], fh := false, rot := .segmentOpen, segIndex := 0#32, cursor := 0#32,
                 sw := 0#32, exitCode := .none, cancelReq := false, startWaiting := false } ∧
      t.slots.toNat = s.segBytes.toNat / 512 ∧
      (CapacityFits s → t.capacity.toNat = s.segCount.toNat * (s.segBytes.toNat / 512)) ∧
      (t.seg 0).present = true ∧ (t.seg 0).active = true ∧ (t.seg 0).len = s.segBytes ∧
      (∀ off, readStore t 0 off = if off < s.segBytes.toNat then 0#8 else readStore s 0 off) ∧
      ∀ j, j ≠ 0 → t.seg j = s.seg j

/-- START answered OPEN_FAIL: Fatal(STORAGE_ALLOC_FAILURE), segment 0 no longer exists, no segment is active, and every other
segment keeps its bytes (45_host_commands.md R282, 60_exceptions.md R315, R316). The model's choices: that the answer may come
later (log entry 2), and that the length and the bytes of segment 0, which the spec leaves unspecified after the failed open,
stay as they were (log entry 8). -/
def Obligations.StartOpenFailureIsFatal : Prop :=
  ∀ (s : State) (i : Instr), Stopped s → LegalConfig s → s.segs.length = s.segCountMax →
    (i = .cmdStart (some .fail) ∨ i = .wrCmd 1#32 (some .fail) ∨ (i = .saOpenFail ∧ s.startWaiting = true)) →
    ∃ t, exec i s = .next t ∧
      { t with segs := s.segs, slots := s.slots, capacity := s.capacity, frame := s.frame, draws := s.draws } =
        { s with ph := .fault, window := [], fh := false, rot := .noSegment, segIndex := 0#32, cursor := 0#32,
                 sw := 0#32, exitCode := .storageAllocFailure, cancelReq := false, irqPend := true,
                 startWaiting := false } ∧
      t.slots.toNat = s.segBytes.toNat / 512 ∧
      (CapacityFits s → t.capacity.toNat = s.segCount.toNat * (s.segBytes.toNat / 512)) ∧
      (t.seg 0).present = false ∧ (∀ j, (t.seg j).active = false ∧ (t.seg j).len = (s.seg j).len) ∧
      (∀ j, j ≠ 0 → (t.seg j).present = (s.seg j).present) ∧ ∀ j off, readStore t j off = readStore s j off

/-- START while a session runs sets CMD_ERR and changes nothing else; with an illegal configuration it sets CFG_ERR and opens
nothing (45_host_commands.md R282, R286; 60_exceptions.md R320). The model's choices: a START that waited for its answer is then
over (log entry 2), and an answer given with the START that is turned away is dropped (log entry 22). -/
def Obligations.StartTurnedAway : Prop :=
  ∀ (s : State) (a : Option StorageAnswer),
    (InSession s → exec (.cmdStart a) s = .next { s with cmdErr := true }) ∧
    (Stopped s → ¬ LegalConfig s → exec (.cmdStart a) s = .next { s with cfgErr := true, startWaiting := false })

/-- The model's choice (log entry 2): a START whose answer has not come yet only asks for the open, and the answer that
comes later has the effect of the answered START. A second START without an answer, while one waits, changes nothing, CMD_ERR
included, and after the one answer no START waits. -/
def Obligations.StartAnsweredLaterIsStartAnswered : Prop :=
  ∀ s : State, Stopped s → LegalConfig s →
    exec (.cmdStart none) s = .next { s with startWaiting := true } ∧
    exec .saOpenOk { s with startWaiting := true } = exec (.cmdStart (some .ok)) s ∧
    exec .saOpenFail { s with startWaiting := true } = exec (.cmdStart (some .fail)) s ∧
    exec (.cmdStart none) { s with startWaiting := true } = .next { s with startWaiting := true } ∧
    ∀ (i : Instr) (t : State), i = .saOpenOk ∨ i = .saOpenFail → exec i { s with startWaiting := true } = .next t →
      t.startWaiting = false

/-- CANCEL in a session sets cancel_req and nothing else; outside it sets CMD_ERR and nothing else
(45_host_commands.md R283). -/
def Obligations.CancelRequests : Prop :=
  ∀ s : State, (InSession s → exec .cmdCancel s = .next { s with cancelReq := true }) ∧
    (Stopped s → exec .cmdCancel s = .next { s with cmdErr := true })

/-- CLRERR clears the two sticky error flags and nothing else (45_host_commands.md R284). -/
def Obligations.ClrerrClearsErrors : Prop :=
  ∀ s : State, exec .cmdClrerr s = .next { s with cmdErr := false, cfgErr := false }

/-- SOFTRESET releases the active segment, returns to IDLE, clears the session, the flags and IRQ_PEND, and keeps the
configuration, IRQ_EN and the store with every byte (45_host_commands.md R285). The model's own startWaiting is cleared too
(log entry 2). -/
def Obligations.SoftresetReturnsToIdle : Prop :=
  ∀ s : State, ∃ t, exec .cmdSoftreset s = .next t ∧
    { t with segs := s.segs, frame := s.frame, draws := s.draws } =
      { s with ph := .idle, window := [], fh := false, rot := .noSegment, segIndex := 0#32, cursor := 0#32, sw := 0#32,
               exitCode := .none, cancelReq := false, cmdErr := false, cfgErr := false, irqPend := false,
               startWaiting := false } ∧
    ∀ j, t.seg j = { s.seg j with active := false }

/-- A host write to CMD performs the command its word names, and an illegal word sets CMD_ERR and nothing else
(45_host_commands.md R280, 30_encoding.md R116). That a storage answer given with a word other than START's is dropped is the
model's choice (log entry 22). -/
def Obligations.CommandWordDispatch : Prop :=
  ∀ (d : Word) (a : Option StorageAnswer) (s : State),
    (d = 0#32 → exec (.wrCmd d a) s = .next s) ∧
    (d = 1#32 → exec (.wrCmd d a) s = exec (.cmdStart a) s) ∧
    (d = 2#32 → exec (.wrCmd d a) s = exec .cmdCancel s) ∧
    (d = 3#32 → exec (.wrCmd d a) s = exec .cmdClrerr s) ∧
    (d = 4#32 → exec (.wrCmd d a) s = exec .cmdSoftreset s) ∧
    (4 < d.toNat → exec (.wrCmd d a) s = .next { s with cmdErr := true })

/-! ### Register accesses -/

/-- A configuration write outside a session stores the value; in a session it is lost and sets CMD_ERR (10_state.md R58;
HDR1's upper half is ignored, R36). -/
def Obligations.ConfigurationWrites : Prop :=
  ∀ (s : State) (d : Word),
    (Stopped s →
      exec (.wrHdr0 d) s = .next { s with hdr0 := d } ∧
      exec (.wrHdr1 d) s = .next { s with hdr1 := BitVec.ofNat 16 d.toNat } ∧
      exec (.wrBudget d) s = .next { s with budget := d } ∧
      exec (.wrSegBytes d) s = .next { s with segBytes := d } ∧
      exec (.wrSegCount d) s = .next { s with segCount := d }) ∧
    (InSession s → ∀ i, i ∈ [Instr.wrHdr0 d, .wrHdr1 d, .wrBudget d, .wrSegBytes d, .wrSegCount d] →
      exec i s = .next { s with cmdErr := true })

/-- The header a session scans for is the six bytes the host wrote: HDR[0] in HDR0[7:0] up to HDR[5] in HDR1[15:8]
(10_state.md R36, 30_encoding.md R126, R130). -/
def Obligations.HeaderWrittenIsHeaderScanned : Prop :=
  ∀ (s : State) (b0 b1 b2 b3 b4 b5 : Byte), Stopped s →
    ∃ t u, exec (.wrHdr0 (le32 b0 b1 b2 b3)) s = .next t ∧ exec (.wrHdr1 (le32 b4 b5 0#8 0#8)) t = .next u ∧
      u.hdr = [b0, b1, b2, b3, b4, b5] ∧ { u with hdr0 := s.hdr0, hdr1 := s.hdr1 } = s

/-- A write to IRQ sets IRQ_EN to bit 0 and clears IRQ_PEND when bit 1 is 1, in every phase (45_host_commands.md R287). -/
def Obligations.IrqWrite : Prop :=
  ∀ (s : State) (d : Word),
    exec (.wrIrq d) s =
      .next { s with irqEn := decide (d.toNat % 2 = 1), irqPend := s.irqPend && decide (d.toNat / 2 % 2 = 0) }

/-- A write to any register but CMD, HDR0, HDR1, BUDGET, SEG_BYTES, SEG_COUNT and IRQ, that is to STATUS, SAMPLES_WRITTEN,
SEG_INDEX, SLOT_CURSOR, WIN_LEN, PARAM or a reserved offset, is WR.READONLY_OR_RESERVED and changes nothing; a write to one of
the seven is no such write (30_encoding.md R113). -/
def Obligations.ReadonlyWriteIgnored : Prop :=
  ∀ (s : State) (n : BitVec 6) (d : Word),
    (n.toNat ∉ [0, 2, 3, 4, 5, 6, 12] →
      hostWriteOf n d = .wrReadonlyOrReserved n d ∧ exec (hostWriteOf n d) s = .next s) ∧
    (n.toNat ∈ [0, 2, 3, 4, 5, 6, 12] → hostWriteOf n d ≠ .wrReadonlyOrReserved n d) ∧
    exec (.wrReadonlyOrReserved n d) s = .next s

/-- A register read returns the register's value and has no side effect (45_host_commands.md R288, 10_state.md R51,
30_encoding.md R112). CMD and the reserved registers read 0. What the host gets stands in the model's field reply (log
entry 10). -/
def Obligations.RegisterReads : Prop :=
  ∀ (s : State) (n : BitVec 6), ∃ v : Word, exec (.rd n) s = .next { s with reply := .word v } ∧
    (n = 0#6 → v = 0#32) ∧ (n = 1#6 → v = statusWord s) ∧ (n = 2#6 → v = s.hdr0) ∧
    (n = 3#6 → v.toNat = s.hdr1.toNat) ∧ (n = 4#6 → v = s.budget) ∧ (n = 5#6 → v = s.segBytes) ∧
    (n = 6#6 → v = s.segCount) ∧ (n = 7#6 → v = s.sw) ∧ (n = 8#6 → v = s.segIndex) ∧ (n = 9#6 → v = s.cursor) ∧
    (n = 10#6 → s.window.length < 4294967296 → v.toNat = s.window.length) ∧
    (n = 11#6 → v.toNat = s.readMax + 65536 * s.keep) ∧
    (n = 12#6 → v.toNat = s.irqEn.toNat + 2 * s.irqPend.toNat) ∧
    (13 ≤ n.toNat → v = 0#32)

/-- The fields of STATUS, computed from the state, and its reset value (10_state.md R52): PHASE[2:0], ROT[4:3] and EXIT[7:5] are
the codes of 10_state.md R31, R41 and 60_exceptions.md R311, so PHASE is never 7 and EXIT never 6 or 7. -/
def Obligations.StatusFields : Prop :=
  statusWord State.reset = 0#32 ∧
  ∀ s : State,
    (statusWord s).toNat % 8 =
      (match s.ph with
        | .idle => 0 | .check => 1 | .sync => 2 | .deliver => 3 | .rotate => 4 | .done => 5 | .fault => 6) ∧
    (statusWord s).toNat / 8 % 4 =
      (match s.rot with | .noSegment => 0 | .segmentOpen => 1 | .segmentFull => 2 | .terminated => 3) ∧
    (statusWord s).toNat / 32 % 8 =
      (match s.exitCode with
        | .none => 0 | .budgetReached => 1 | .capacityExhausted => 2 | .cancelled => 3 | .linkFailure => 4
        | .storageAllocFailure => 5) ∧
    (statusWord s).getLsbD 8 = s.cancelReq ∧
    (statusWord s).getLsbD 9 = s.cmdErr ∧ (statusWord s).getLsbD 10 = s.cfgErr ∧ (statusWord s).getLsbD 11 = s.fh ∧
    ((statusWord s).getLsbD 12 = true ↔ s.ph = .sync ∧ ∃ o, HeaderAt s.hdr s.window o) ∧
    (statusWord s).toNat < 0x2000

/-- StoreRead of a released segment inside its length returns its bytes in ascending order and has no side effect; in every
other case it has no step (20_memory.md R90). That the returned bytes stand in the model's field reply, and that nothing else
changes with them, is the model's choice (log entry 10). -/
def Obligations.StoreRead : Prop :=
  ∀ (s : State) (seg off n : Word),
    (seg.toNat < s.segCountMax ∧ (s.seg seg.toNat).present = true ∧ (s.seg seg.toNat).active = false ∧ 1 ≤ n.toNat ∧
        off.toNat + n.toNat ≤ (s.seg seg.toNat).len.toNat →
      ∃ bs : List Byte, exec (.read seg off n) s = .next { s with reply := .bytes bs } ∧ bs.length = n.toNat ∧
        ∀ i, i < n.toNat → bs[i]? = some (readStore s seg.toNat (off.toNat + i))) ∧
    (¬ (seg.toNat < s.segCountMax ∧ (s.seg seg.toNat).present = true ∧ (s.seg seg.toNat).active = false ∧ 1 ≤ n.toNat ∧
        off.toNat + n.toNat ≤ (s.seg seg.toNat).len.toNat) →
      ∃ r, exec (.read seg off n) s = .refused r)

/-! ### The link and the synchronizer -/

/-- A SYNC step whose window holds no header keeps the last KEEP bytes and stays in SYNC (41_frame_sync.md R175, R172). -/
def Obligations.SyncMiss : Prop :=
  ∀ (s : State) (data : List Byte), s.ph = .sync → data.length ≤ s.readMax →
    (∀ o, ¬ HeaderAt s.hdr (s.window ++ data) o) →
    exec (.rxData data) s =
      .next { s with window := (s.window ++ data).drop ((s.window ++ data).length - s.keep) }

/-- A SYNC step with a header but no whole frame after it keeps the window whole and stays in SYNC
(41_frame_sync.md R173, R172). -/
def Obligations.SyncWait : Prop :=
  ∀ (s : State) (data : List Byte) (o : Nat), s.ph = .sync → data.length ≤ s.readMax →
    HeaderAt s.hdr (s.window ++ data) o → (∀ j, j < o → ¬ HeaderAt s.hdr (s.window ++ data) j) →
    (s.window ++ data).length < o + 518 →
    exec (.rxData data) s = .next { s with window := s.window ++ data }

/-- A SYNC step with a whole frame after the first header cuts the frame out, keeps the last KEEP bytes of the whole window
and goes to DELIVER (41_frame_sync.md R174, R172). -/
def Obligations.SyncEmission : Prop :=
  ∀ (s : State) (data : List Byte) (o : Nat), s.ph = .sync → data.length ≤ s.readMax →
    HeaderAt s.hdr (s.window ++ data) o → (∀ j, j < o → ¬ HeaderAt s.hdr (s.window ++ data) j) →
    o + 518 ≤ (s.window ++ data).length →
    ∃ t, exec (.rxData data) s = .next t ∧
      { t with frame := s.frame } =
        { s with window := (s.window ++ data).drop ((s.window ++ data).length - s.keep), fh := true, ph := .deliver } ∧
      t.frame.length = 518 ∧ (∀ i, i < 518 → t.frame[i]? = (s.window ++ data)[o + i]?) ∧ t.frame.take 6 = s.hdr

/-- A FAIL answer in SYNC ends the session on the fatal path with LINK_FAILURE, whatever cancel_req is; W and the counters
stay and every byte of the store stays (40_link_interface.md R154, 60_exceptions.md R313, R316). -/
def Obligations.LinkFailureIsFatal : Prop :=
  ∀ s : State, s.ph = .sync → ∃ t, exec .rxFail s = .next t ∧
    { t with segs := s.segs, frame := s.frame, draws := s.draws } =
      { s with ph := .fault, rot := .noSegment, fh := false, exitCode := .linkFailure, cancelReq := false,
               irqPend := true } ∧
    ∀ j, t.seg j = { s.seg j with active := false }

/-- The link agent has no step when no read is outstanding, that is outside SYNC (40_link_interface.md R151). -/
def Obligations.NoLinkStepOutsideSync : Prop :=
  ∀ (s : State) (data : List Byte), s.ph ≠ .sync →
    exec (.rxData data) s = .refused .noReadOutstanding ∧ exec .rxFail s = .refused .noReadOutstanding

/-- first_match is the least offset at which the header stands whole, and none when there is no such offset
(41_frame_sync.md R171). -/
def Obligations.FirstMatchIsLeast : Prop :=
  ∀ (hdr w : List Byte), hdr.length = 6 →
    (∀ o, firstMatch hdr w = some o ↔ HeaderAt hdr w o ∧ ∀ j, j < o → ¬ HeaderAt hdr w j) ∧
    (firstMatch hdr w = none ↔ ∀ o, ¬ HeaderAt hdr w o)

/-- Appending bytes does not move a match, and a match the append makes starts in the last five old bytes or later
(41_frame_sync.md R177). So the offset a step-4 wait waits on never changes. -/
def Obligations.FirstMatchStableUnderAppend : Prop :=
  ∀ (hdr w data : List Byte) (o : Nat), hdr.length = 6 →
    (firstMatch hdr w = some o → firstMatch hdr (w ++ data) = some o) ∧
    (firstMatch hdr w = none → firstMatch hdr (w ++ data) = some o → w.length ≤ o + 5)

/-- The trim on a miss loses no header: every header occurrence that later bytes complete starts in the last five old bytes or
later, hence inside the kept tail, and scanning the kept tail with the later bytes finds the frame that scanning everything
would find (41_frame_sync.md R179). -/
def Obligations.MissTrimLosesNoHeader : Prop :=
  ∀ (hdr w data : List Byte) (k o : Nat), hdr.length = 6 → 6 ≤ k → firstMatch hdr w = none →
    (∀ o', HeaderAt hdr (w ++ data) o' → w.length ≤ o' + 5 ∧ w.length - k ≤ o') ∧
    (firstMatch hdr (w ++ data) = some o →
      firstMatch hdr (tailBytes k w ++ data) = some (o - (w.length - k)) ∧
      frameAt (tailBytes k w ++ data) (o - (w.length - k)) = frameAt (w ++ data) o)

/-- Re-emission: after an emission at offset o of a window of n bytes with n − o ≤ KEEP, that is when the frame starts within
KEEP bytes of the window's end, the next SYNC step of the session emits the same frame again, whatever its answer (41_frame_sync.md R181, the direction that always holds). -/
def Obligations.FrameIsEmittedAgain : Prop :=
  ∀ (s t u : State) (data data' : List Byte) (o : Nat), s.ph = .sync → firstMatch s.hdr (s.window ++ data) = some o →
    (s.window ++ data).length - o ≤ s.keep → exec (.rxData data) s = .next t → t.ph = .deliver →
    u.ph = .sync → u.window = t.window → u.hdr0 = t.hdr0 → u.hdr1 = t.hdr1 → u.param = t.param →
    data'.length ≤ u.readMax → ∃ v, exec (.rxData data') u = .next v ∧ v.ph = .deliver ∧ v.frame = t.frame

/-- A pending cancel neither ends a SYNC wait nor is lost in it: a DATA answer's step is the same with cancel_req set, and
leaves cancel_req as it is (40_link_interface.md R156, 44_acquisition_loop.md R257). -/
def Obligations.SyncIgnoresCancel : Prop :=
  ∀ (s t : State) (data : List Byte), exec (.rxData data) s = .next t →
    t.cancelReq = s.cancelReq ∧
    ∀ b, exec (.rxData data) { s with cancelReq := b } = .next { t with cancelReq := b }

/-! ### The decoder and the store -/

/-- DECODE: PK_ADDR is the frame's first six bytes, sample k is le32 of its bytes 6+4k to 9+4k, and nothing else changes
(42_decode.md R200, 30_encoding.md R122). -/
def Obligations.DecodeLanes : Prop :=
  ∀ s : State, s.frame.length = 518 →
    { decodeFrame s with pkAddr := s.pkAddr, pkSample := s.pkSample } = s ∧
    (decodeFrame s).pkAddr = s.frame.take 6 ∧ (decodeFrame s).pkSample.length = 128 ∧
    ∀ k, k < 128 → (decodeFrame s).pkSample[k]? =
      some (le32 (s.frame.getD (6 + 4 * k) 0#8) (s.frame.getD (7 + 4 * k) 0#8) (s.frame.getD (8 + 4 * k) 0#8)
        (s.frame.getD (9 + 4 * k) 0#8))

/-- The round trip of 42_decode.md R204: decoding an encoded row gives its samples bit for bit and its address. -/
def Obligations.DecodeOfEncodedFrame : Prop :=
  ∀ (s : State) (samples : List Word), samples.length = 128 →
    (encodeFrame s.hdr samples).length = 518 ∧
    frameSamples (encodeFrame s.hdr samples) = samples ∧ frameAddress (encodeFrame s.hdr samples) = s.hdr

/-- The store's two writers keep the canonical form. Reading after a slot write gives the written bytes inside the slot and the
old bytes everywhere else; reading after an open gives zeros below SEG_BYTES and the old bytes everywhere else
(20_memory.md R86, R89; 30_encoding.md R123). The canonical form, and the old bytes at and above SEG_BYTES after an open, are
the model's choices (log entry 8). -/
def Obligations.SlotWriteReadsBack : Prop :=
  ∀ (s : State) (i k : Nat) (bs : List Byte), StoreShape s → i < s.segCountMax → bs.length = 512 →
    StoreShape (storeWrite i (512 * k) bs s) ∧ StoreShape (storeOpen i s) ∧
    (∀ j, j < 512 → readStore (storeWrite i (512 * k) bs s) i (512 * k + j) = bs.getD j 0#8) ∧
    (∀ k' j, k' ≠ k → j < 512 →
      readStore (storeWrite i (512 * k) bs s) i (512 * k' + j) = readStore s i (512 * k' + j)) ∧
    (∀ off, readStore (storeOpen i s) i off = if off < s.segBytes.toNat then 0#8 else readStore s i off) ∧
    ∀ i' off, i' ≠ i → readStore (storeWrite i (512 * k) bs s) i' off = readStore s i' off ∧
      readStore (storeOpen i s) i' off = readStore s i' off

/-! ### The controller -/

/-- CHECK with room in the budget, a rotator that is not Terminated and no cancel issues a link read
(44_acquisition_loop.md R250). -/
def Obligations.CheckGoesOnToSync : Prop :=
  ∀ s : State, s.ph = .check → s.sw.toNat < s.budget.toNat → s.rot ≠ .terminated → s.cancelReq = false →
    exec .stepCheck s = .next { s with ph := .sync }

/-- CHECK ends the session in the order budget, capacity, cancel (44_acquisition_loop.md R250, 60_exceptions.md R320): EXIT is
the first that holds, an open segment is released, IRQ_PEND is set, and the counts and every byte of the store stay
(44_acquisition_loop.md R254). -/
def Obligations.CheckEndsTheSession : Prop :=
  ∀ s : State, s.ph = .check →
    s.budget.toNat ≤ s.sw.toNat ∨ s.rot = .terminated ∨ s.cancelReq = true →
    ∃ t, exec .stepCheck s = .next t ∧
      { t with segs := s.segs } =
        { s with ph := .done, cancelReq := false, irqPend := true,
                 exitCode := if s.budget.toNat ≤ s.sw.toNat then .budgetReached
                             else if s.rot = .terminated then .capacityExhausted else .cancelled,
                 rot := if s.rot = .segmentOpen then .noSegment else s.rot } ∧
      (∀ j, (t.seg j).active = ((s.seg j).active && !(decide (s.rot = .segmentOpen) && decide (j = s.segIndex.toNat)))) ∧
      (∀ j, (t.seg j).present = (s.seg j).present ∧ (t.seg j).len = (s.seg j).len) ∧
      ∀ j off, readStore t j off = readStore s j off

/-- DELIVER stores the held frame's payload into the slot at the cursor of the mapped segment, counts the row, lets the frame
go and goes to ROTATE when the segment is full, else to CHECK; no other byte of the store changes
(44_acquisition_loop.md R252, 43_storage_rotator.md R221). -/
def Obligations.DeliverStoresTheRow : Prop :=
  ∀ s : State, s.ph = .deliver → s.rot = .segmentOpen → s.frame.length = 518 →
    s.segIndex.toNat < s.segs.length → (s.seg s.segIndex.toNat).active = true →
    slotBase s.cursor + 512 ≤ (s.seg s.segIndex.toNat).len.toNat →
    ∃ t, exec .stepDeliver s = .next t ∧
      { t with segs := s.segs, frame := s.frame, pkAddr := s.pkAddr, pkSample := s.pkSample, draws := s.draws } =
        { s with fh := false, sw := s.sw + 1#32, cursor := s.cursor + 1#32,
                 rot := if s.cursor + 1#32 = s.slots then .segmentFull else .segmentOpen,
                 ph := if s.cursor + 1#32 = s.slots then .rotate else .check } ∧
      (∀ j, (t.seg j).present = (s.seg j).present ∧ (t.seg j).active = (s.seg j).active ∧
        (t.seg j).len = (s.seg j).len) ∧
      ∀ j off, readStore t j off =
        if j = s.segIndex.toNat ∧ slotBase s.cursor ≤ off ∧ off < slotBase s.cursor + 512 then
          s.frame.getD (6 + (off - slotBase s.cursor)) 0#8
        else readStore s j off

/-- Append with no open segment is rejected: no byte, no segment, no cursor and no rotator state changes (43_storage_rotator.md
R223). That DELIVER then still has its step, with the append rejected, is the model's choice for states that R223 says no step
reaches (log entry 20). -/
def Obligations.AppendRejectedWithoutOpenSegment : Prop :=
  ∀ s : State, s.rot ≠ .segmentOpen →
    append s = s ∧
    (s.ph = .deliver → ∃ t, exec .stepDeliver s = .next t ∧ t.segs = s.segs ∧ t.cursor = s.cursor ∧ t.rot = s.rot)

/-- ROTATE at the last segment: the full segment is released and the rotator is Terminated, no answer needed
(43_storage_rotator.md R222). That an answer given all the same is dropped is the model's choice (log entry 22). -/
def Obligations.RotateTerminates : Prop :=
  ∀ (s : State) (a : Option StorageAnswer), s.ph = .rotate → s.segIndex + 1#32 = s.segCount →
    s.segIndex.toNat < s.segs.length →
    ∃ t, exec (.stepRotate a) s = .next t ∧
      { t with segs := s.segs } = { s with segIndex := s.segIndex + 1#32, rot := .terminated, ph := .check } ∧
      t.seg s.segIndex.toNat = { s.seg s.segIndex.toNat with active := false } ∧
      ∀ j, j ≠ s.segIndex.toNat → t.seg j = s.seg j

/-- ROTATE answered OPEN_OK: the full segment is released with its bytes, and the next one is open and zero with the cursor
at 0 (43_storage_rotator.md R222, R220). The answer comes with the step, or later as SA.OPEN_OK (log entry 2). That the new
segment's bytes at and above SEG_BYTES stay as they were is the model's choice (log entry 8). -/
def Obligations.RotateOpensTheNextSegment : Prop :=
  ∀ (s : State) (i : Instr), s.ph = .rotate → s.segIndex + 1#32 ≠ s.segCount →
    s.segs.length = s.segCountMax → (s.segIndex + 1#32).toNat < s.segCountMax →
    (i = .stepRotate (some .ok) ∨ (i = .saOpenOk ∧ s.startWaiting = false)) →
    ∃ t, exec i s = .next t ∧
      { t with segs := s.segs } =
        { s with segIndex := s.segIndex + 1#32, cursor := 0#32, rot := .segmentOpen, ph := .check } ∧
      t.seg s.segIndex.toNat = { s.seg s.segIndex.toNat with active := false } ∧
      (t.seg (s.segIndex + 1#32).toNat).present = true ∧ (t.seg (s.segIndex + 1#32).toNat).active = true ∧
      (t.seg (s.segIndex + 1#32).toNat).len = s.segBytes ∧
      (∀ off, readStore t (s.segIndex + 1#32).toNat off =
        if off < s.segBytes.toNat then 0#8 else readStore s (s.segIndex + 1#32).toNat off) ∧
      ∀ j, j ≠ s.segIndex.toNat → j ≠ (s.segIndex + 1#32).toNat → t.seg j = s.seg j

/-- ROTATE answered OPEN_FAIL: Fatal(STORAGE_ALLOC_FAILURE); the segment just released stays released and intact, the
segment that failed to open no longer exists, and every other segment keeps its bytes (43_storage_rotator.md R222, R229;
60_exceptions.md R315, R316). The model's choices: that the answer may come later (log entry 2), that the length and the bytes
of the segment that failed to open, unspecified in the spec, stay as they were (log entry 8), and that cursor stays with
rot = NoSegment, which R315 and R316 say and 10_state.md R43 does not (log entry 14). -/
def Obligations.RotateOpenFailureIsFatal : Prop :=
  ∀ (s : State) (i : Instr), s.ph = .rotate → s.segIndex + 1#32 ≠ s.segCount →
    s.segs.length = s.segCountMax → (s.segIndex + 1#32).toNat < s.segCountMax →
    (i = .stepRotate (some .fail) ∨ (i = .saOpenFail ∧ s.startWaiting = false)) →
    ∃ t, exec i s = .next t ∧
      { t with segs := s.segs, frame := s.frame, draws := s.draws } =
        { s with segIndex := s.segIndex + 1#32, fh := false, rot := .noSegment, exitCode := .storageAllocFailure,
                 cancelReq := false, ph := .fault, irqPend := true } ∧
      (t.seg (s.segIndex + 1#32).toNat).present = false ∧
      (∀ j, (t.seg j).active = false ∧ (t.seg j).len = (s.seg j).len) ∧
      (∀ j, j ≠ (s.segIndex + 1#32).toNat → (t.seg j).present = (s.seg j).present) ∧
      ∀ j off, readStore t j off = readStore s j off

/-- ROTATE that must open a segment has not happened while the storage agent gives no answer
(43_storage_rotator.md R220; log entry 2), and a storage answer has no step when no open is requested. -/
def Obligations.OpenWaitsForItsAnswer : Prop :=
  ∀ s : State,
    (s.ph = .rotate → s.segIndex + 1#32 ≠ s.segCount → exec (.stepRotate none) s = .next s) ∧
    (s.startWaiting = false → s.ph ≠ .rotate ∨ s.segIndex + 1#32 = s.segCount →
      exec .saOpenOk s = .refused .noOpenRequested ∧ exec .saOpenFail s = .refused .noOpenRequested)

/-- An internal step is enabled in its phase only; in another phase it has no step (30_encoding.md R131). -/
def Obligations.InternalStepsNeedTheirPhase : Prop :=
  ∀ (s : State) (a : Option StorageAnswer),
    (s.ph ≠ .check → exec .stepCheck s = .refused .stepNotEnabled) ∧
    (s.ph ≠ .deliver → exec .stepDeliver s = .refused .stepNotEnabled) ∧
    (s.ph ≠ .rotate → exec (.stepRotate a) s = .refused .stepNotEnabled)

/-! ### Reset and the whole machine -/

/-- Hardware reset from any state: every field at its value of 10_state.md R56, no segment exists or is active, the interrupt
output is 0 and the parameters stay (70_reset_and_hazards.md R340). The model's own startWaiting is cleared too (log
entry 2). -/
def Obligations.HardwareReset : Prop :=
  ∀ s : State, ∃ t, exec .stepReset s = .next t ∧
    { t with segs := s.segs, frame := s.frame, pkAddr := s.pkAddr, pkSample := s.pkSample, slots := s.slots,
             capacity := s.capacity, draws := s.draws } =
      { s with ph := .idle, window := [], fh := false, hdr0 := 0x12E18000#32, hdr1 := 0x5634#16,
               budget := 0x00100000#32, segBytes := 0x01000000#32, segCount := 32#32, rot := .noSegment,
               segIndex := 0#32, cursor := 0#32, sw := 0#32, exitCode := .none, cancelReq := false, cmdErr := false,
               cfgErr := false, irqEn := false, irqPend := false, startWaiting := false } ∧
    t.hdr = [0x00#8, 0x80#8, 0xE1#8, 0x12#8, 0x34#8, 0x56#8] ∧ irqOutput t = false ∧
    ∀ j, (t.seg j).present = false ∧ (t.seg j).active = false

/-- What the host reads right after reset (10_state.md R51, R56): every register but PARAM, whose value is the model's choice
(log entry 5), and no segment to read. -/
def Obligations.ResetRegisterValues : Prop :=
  [0#6, 1#6, 2#6, 3#6, 4#6, 5#6, 6#6, 7#6, 8#6, 9#6, 10#6, 12#6].map (fun n => readRegister n State.reset) =
      [0#32, 0#32, 0x12E18000#32, 0x00005634#32, 0x00100000#32, 0x01000000#32, 32#32, 0#32, 0#32, 0#32, 0#32, 0#32] ∧
    State.reset.ph = .idle ∧ State.reset.rot = .noSegment ∧
    ∀ seg off n, exec (.read seg off n) State.reset = .refused .readOfAbsentSegment

/-- Every entry to DONE or FAULT sets IRQ_PEND, a START that fails in FAULT included; nothing else sets it; it is cleared by a
write of 1 to its bit, SOFTRESET or reset only; and the interrupt output is the level IRQ_EN ∧ IRQ_PEND (60_exceptions.md
R318, 10_state.md R48, R53). That a START may wait, so that an OPEN_FAIL that comes later is one of the STARTs that fail, is the
model's choice (log entry 2). -/
def Obligations.InterruptPending : Prop :=
  ∀ (i : Instr) (s t : State), exec i s = .next t →
    (t.ph = .done ∨ t.ph = .fault → t.ph ≠ s.ph → t.irqPend = true) ∧
    (Stopped s → LegalConfig s →
      i = .cmdStart (some .fail) ∨ i = .wrCmd 1#32 (some .fail) ∨ (i = .saOpenFail ∧ s.startWaiting = true) →
      t.ph = .fault ∧ t.irqPend = true) ∧
    (s.irqPend = false → t.irqPend = true →
      (i = .stepCheck ∧ s.ph = .check ∧ t.ph = .done) ∨
      (t.ph = .fault ∧ (i = .rxFail ∨ i = .saOpenFail ∨ i = .cmdStart (some .fail) ∨ i = .wrCmd 1#32 (some .fail) ∨
        i = .stepRotate (some .fail)))) ∧
    (irqOutput t = true ↔ t.irqEn = true ∧ t.irqPend = true) ∧
    (s.irqPend = true → t.irqPend = false →
      i = .cmdSoftreset ∨ i = .stepReset ∨ (∃ a, i = .wrCmd 4#32 a) ∨ ∃ d : Word, i = .wrIrq d ∧ d.getLsbD 1 = true)

/-- No step changes an implementation parameter (00_scope.md R8), and in a session no step but a hardware reset changes the
configuration registers, SLOTS or CAPACITY (10_state.md R40, R58). -/
def Obligations.ConfigurationFixedInSession : Prop :=
  ∀ (i : Instr) (s t : State), exec i s = .next t →
    (t.param = s.param ∧ t.segBytesMax = s.segBytesMax ∧ t.segCountMax = s.segCountMax) ∧
    (InSession s → i ≠ .stepReset → t.hdr0 = s.hdr0 ∧ t.hdr1 = s.hdr1 ∧ t.budget = s.budget ∧ t.segBytes = s.segBytes ∧ t.segCount = s.segCount ∧
      t.slots = s.slots ∧ t.capacity = s.capacity)

/-- Only DELIVER and a successful open change a byte of the store (20_memory.md R89, R97): DELIVER only inside the slot at the
cursor of segment seg_index, an open only below SEG_BYTES of the segment it opens, to zero. That a hardware reset, a failed
open, and an open at and above SEG_BYTES change no byte is the model's choice for bytes the spec leaves unspecified (log entry
8), and so is that the answer to an open may come later, as the transaction SA.OPEN_OK (log entry 2). -/
def Obligations.OnlyDeliverAndOpenWriteTheStore : Prop :=
  ∀ (i : Instr) (s t : State) (j off : Nat), s.frame.length = 518 → exec i s = .next t →
    readStore t j off ≠ readStore s j off →
    (i = .stepDeliver ∧ j = s.segIndex.toNat ∧ slotBase s.cursor ≤ off ∧ off < slotBase s.cursor + 512) ∨
    ((i = .cmdStart (some .ok) ∨ i = .wrCmd 1#32 (some .ok) ∨ i = .saOpenOk ∨ i = .stepRotate (some .ok)) ∧
      t.rot = .segmentOpen ∧ t.cursor = 0#32 ∧ j = t.segIndex.toNat ∧ off < t.segBytes.toNat ∧ readStore t j off = 0#8)

/-- SW counts up in DELIVER only, and only START, SOFTRESET and reset clear it (10_state.md R44): a step that changes SW is a
DELIVER that adds 1, or it sets SW to 0 and is a hardware reset, a SOFTRESET or an answered START, each command as CMD.* or as
its word written to CMD (1 and 4), or the storage answer to a START that waits, which is the model's choice (log entry 2). -/
def Obligations.OnlyDeliverCountsRows : Prop :=
  ∀ (i : Instr) (s t : State), exec i s = .next t → t.sw ≠ s.sw →
    (i = .stepDeliver ∧ t.sw = s.sw + 1#32) ∨
    (t.sw = 0#32 ∧ (i = .stepReset ∨ i = .cmdSoftreset ∨ (∃ a, i = .wrCmd 4#32 a) ∨
      (∃ b, i = .cmdStart (some b) ∨ i = .wrCmd 1#32 (some b)) ∨
      ((i = .saOpenOk ∨ i = .saOpenFail) ∧ s.startWaiting = true)))

/-- Nothing observable depends on a free value (10_state.md R57): from states that differ in unspecified values only, a step
has the same outcome, and its next states again differ in unspecified values only. -/
def Obligations.FreeValuesAreUnobservable : Prop :=
  ∀ s t : State, PhaseInv s → SameButFree s t →
    OutcomeRel SameButFree (step s) (step t) ∧ ∀ n, readRegister n t = readRegister n s

/-! ### Invariants -/

/-- Every step keeps the store's SEG_COUNT_MAX entries and the canonical form of every segment's bytes, which is the model's (log
entry 8). -/
def Obligations.StoreShapeKept : Prop := ∀ s t : State, StoreShape s → step s = .next t → StoreShape t

/-- Every step keeps the phase in agreement with the rotator, the held frame, EXIT and cancel_req
(10_state.md R34, R41, R45, R46). That a START waits for its answer only outside a session (the conjunct waiting_idle) speaks of
the model's own field startWaiting (log entry 2). -/
def Obligations.PhaseInvariantKept : Prop := ∀ s t : State, PhaseInv s → step s = .next t → PhaseInv t

/-- Every step keeps the window bound: len(W) never exceeds WCAP, and in SYNC it has one of the two forms of 41_frame_sync.md
R178. Inside a SYNC step too, after the append and before the trim, the window has at most WCAP bytes: a buffer of WCAP bytes
never overflows. -/
def Obligations.WindowInvariantKept : Prop :=
  ∀ s : State, WindowInv s →
    (∀ t, step s = .next t → WindowInv t) ∧
    (s.ph = .sync → ∀ data : List Byte, data.length ≤ s.readMax → (s.window ++ data).length ≤ s.wcap)

/-- Every step keeps the invariant of reachable states (10_state.md R54). The model's part in it: cursor = SLOTS is let stand in
FAULT after a ROTATE whose open failed (log entry 14), the canonical form of the bytes (log entry 8), a START that waits (log entry 2) and
that CAPACITY fits its register under the maxima (log entry 15). -/
def Obligations.InvariantKept : Prop := ∀ s t : State, Inv s → step s = .next t → Inv t

/-- The invariant holds right after reset. Where it speaks of a value the spec leaves open there (PARAM; the lengths of F and
the packet registers; absent segments; SLOTS and CAPACITY), it rests on the model's choice (log entries 5 and 6), and the
maxima have the reference values (log entry 15). -/
def Obligations.InvariantAtReset : Prop := Inv State.reset

/-- From a state of the invariant no step faults: every slot written lies inside its segment and every segment opened is one
of the store's (20_memory.md R80). -/
def Obligations.NoStepFaults : Prop := ∀ s : State, Inv s → SafeStep s

/-- From a state of the invariant, DELIVER writes row SW + 1: the held frame's payload goes into segment ⌊SW/SLOTS⌋ at slot
SW mod SLOTS, no other byte of the store changes, and the row counted lies inside the budget and the capacity
(30_encoding.md R124, 43_storage_rotator.md R226, 20_memory.md R92). -/
def Obligations.RowLocation : Prop :=
  ∀ s : State, Inv s → s.ph = .deliver →
    ∃ t, exec .stepDeliver s = .next t ∧ t.sw.toNat = s.sw.toNat + 1 ∧ t.sw.toNat ≤ s.budget.toNat ∧
      t.sw.toNat ≤ s.capacity.toNat ∧
      (∀ i, i < 512 →
        readStore t (s.sw.toNat / s.slots.toNat) (512 * (s.sw.toNat % s.slots.toNat) + i) = s.frame.getD (6 + i) 0#8) ∧
      ∀ j off, ¬ (j = s.sw.toNat / s.slots.toNat ∧ 512 * (s.sw.toNat % s.slots.toNat) ≤ off ∧
          off < 512 * (s.sw.toNat % s.slots.toNat) + 512) →
        readStore t j off = readStore s j off

/-- From a state of the invariant, a session that ends CAPACITY_EXHAUSTED has SW = CAPACITY < BUDGET and every segment
filled (60_exceptions.md R317, 44_acquisition_loop.md R255). -/
def Obligations.CapacityExhaustedMeansFull : Prop :=
  ∀ s t : State, Inv s → exec .stepCheck s = .next t → t.exitCode = .capacityExhausted →
    t.sw = t.capacity ∧ t.sw.toNat < t.budget.toNat ∧ t.segIndex = t.segCount ∧ t.rot = .terminated ∧ t.cursor = t.slots

/-- From a state of the invariant in DELIVER with one row left in the budget, the session ends DONE, BUDGET_REACHED, with
SW = BUDGET (44_acquisition_loop.md R250, R252, R255): in two steps when the row leaves its segment open, in three when it fills
the last segment, and, when it fills another segment, in three with the next segment's open answered OPEN_OK, which leaves that
segment existing, released and zero (43_storage_rotator.md R228). The model's choices: that the controller takes its steps when
no transaction is to come (log entry 3), and that its steps and the answer stand in the input (log entries 1, 2 and 11). -/
def Obligations.LastRowEndsTheSession : Prop :=
  ∀ s : State, Inv s → s.ph = .deliver → s.sw + 1#32 = s.budget →
    (s.input = [] → s.cursor + 1#32 ≠ s.slots →
      ∃ t, Sys2Proof.core.run 2 s = .next t ∧ t.ph = .done ∧ t.exitCode = .budgetReached ∧ t.sw = s.budget ∧
        t.irqPend = true ∧ t.rot = .noSegment ∧ (t.seg s.segIndex.toNat).active = false) ∧
    (s.input = [] → s.cursor + 1#32 = s.slots → s.segIndex + 1#32 = s.segCount →
      ∃ t, Sys2Proof.core.run 3 s = .next t ∧ t.ph = .done ∧ t.exitCode = .budgetReached ∧ t.sw = s.budget ∧
        t.irqPend = true ∧ t.rot = .terminated ∧ (t.seg s.segIndex.toNat).active = false) ∧
    (s.input = encode .stepDeliver ++ (encode (.stepRotate (some .ok)) ++ encode .stepCheck) →
      s.cursor + 1#32 = s.slots → s.segIndex + 1#32 ≠ s.segCount →
      ∃ t, Sys2Proof.core.run 3 s = .next t ∧ t.ph = .done ∧ t.exitCode = .budgetReached ∧ t.sw = s.budget ∧
        t.irqPend = true ∧ t.rot = .noSegment ∧ (∀ j, (t.seg j).active = false) ∧
        (t.seg (s.segIndex.toNat + 1)).present = true ∧ (t.seg (s.segIndex.toNat + 1)).len = s.segBytes ∧
        ∀ off, off < s.segBytes.toNat → readStore t (s.segIndex.toNat + 1) off = 0#8)
end

