-- ==== Sys2Proof/Laws/Bytes.lean ====
section
/-! SUPPORT. Little-endian words and byte sequences. -/

namespace Sys2Proof

/-- The bits of an assembled word. -/
theorem le32_getLsbD (b0 b1 b2 b3 : Byte) (i : Nat) :
    (le32 b0 b1 b2 b3).getLsbD i =
      if i < 8 then b0.getLsbD i
      else if i - 8 < 8 then b1.getLsbD (i - 8)
      else if i - 8 - 8 < 8 then b2.getLsbD (i - 8 - 8) else b3.getLsbD (i - 8 - 8 - 8) := by
  unfold le32
  rw [BitVec.getLsbD_append, BitVec.getLsbD_append, BitVec.getLsbD_append]

/-- `le32` is the formula of 00_scope.md R13. -/
theorem le32_eq_shifts (b0 b1 b2 b3 : Byte) :
    le32 b0 b1 b2 b3 =
      (b0.zeroExtend 32 ||| b1.zeroExtend 32 <<< 8 ||| b2.zeroExtend 32 <<< 16 ||| b3.zeroExtend 32 <<< 24) := by
  apply BitVec.eq_of_getLsbD_eq
  intro i hi
  interval_cases i <;> simp [le32_getLsbD, -BitVec.getLsbD_eq_getElem]

/-- Disassembling an assembled word gives its bytes back. -/
@[simp] theorem wordBytes_le32 (b0 b1 b2 b3 : Byte) : wordBytes (le32 b0 b1 b2 b3) = [b0, b1, b2, b3] := by
  simp only [wordBytes, List.cons.injEq, and_true]
  refine ⟨?_, ?_, ?_, ?_⟩ <;>
  · apply BitVec.eq_of_getLsbD_eq
    intro i hi
    interval_cases i <;> simp [le32_getLsbD, -BitVec.getLsbD_eq_getElem]

/-- Assembling a word's bytes gives the word back. -/
theorem le32_extract (w : Word) :
    le32 (w.extractLsb' 0 8) (w.extractLsb' 8 8) (w.extractLsb' 16 8) (w.extractLsb' 24 8) = w := by
  apply BitVec.eq_of_getLsbD_eq
  intro i hi
  interval_cases i <;> simp [le32_getLsbD, -BitVec.getLsbD_eq_getElem]

@[simp] theorem wordBytes_length (w : Word) : (wordBytes w).length = 4 := rfl

/-- Reading back the word whose bytes lie next. -/
@[simp] theorem takeWord_wordBytes (w : Word) (rest : List Byte) :
    takeWord (wordBytes w ++ rest) = some (w, rest) := by
  simp [wordBytes, takeWord, le32_extract]

@[simp] theorem formatOfTag_formatTag (f : Format) : formatOfTag (formatTag f) = some f := by
  cases f <;> rfl

@[simp] theorem storageAnswerOf_word (a : StorageAnswer) : storageAnswerOf (storageAnswerWord a) = some a := by
  cases a <;> rfl

end Sys2Proof
end

