-- ==== Sys2Proof/Laws/Memory.lean ====
section
/-! SUPPORT. The bytes of a segment: what each operation leaves every offset reading, and that each keeps the canonical
form. -/

namespace Sys2Proof.Machine

theorem Memory.read_of_not_mem {m : Memory} {a : Nat} (h : ∀ c ∈ m, c.1 ≠ a) : m.read a = 0#8 := by
  induction m with
  | nil => rfl
  | cons c m ih =>
    obtain ⟨k, b⟩ := c
    have hk : k ≠ a := h (k, b) (by simp)
    simp only [Memory.read, hk, if_false]
    exact ih fun c hc => h c (by simp [hc])

/-- Reading through an append: the first part decides where it lists the offset. -/
theorem Memory.read_append_of_not_mem {m m' : Memory} {a : Nat} (h : ∀ c ∈ m, c.1 ≠ a) :
    Memory.read (m ++ m') a = Memory.read m' a := by
  induction m with
  | nil => rfl
  | cons c m ih =>
    obtain ⟨k, b⟩ := c
    have hk : k ≠ a := h (k, b) (by simp)
    simp only [List.cons_append, Memory.read, hk, if_false]
    exact ih fun c hc => h c (by simp [hc])

theorem Memory.read_append_of_not_mem_right {m m' : Memory} {a : Nat} (h : ∀ c ∈ m', c.1 ≠ a) :
    Memory.read (m ++ m') a = Memory.read m a := by
  induction m with
  | nil => exact Memory.read_of_not_mem h
  | cons c m ih =>
    obtain ⟨k, b⟩ := c
    by_cases hk : k = a <;> simp [Memory.read, hk, ih]

/-- A filter by offset reads as before where it keeps the offset and as zero elsewhere. -/
theorem Memory.read_filter (m : Memory) (p : Nat → Bool) (a : Nat) :
    Memory.read (m.filter fun c => p c.1) a = if p a then m.read a else 0#8 := by
  induction m with
  | nil => simp [Memory.read]
  | cons c m ih =>
    obtain ⟨k, b⟩ := c
    by_cases hp : p k <;> by_cases hk : k = a <;> by_cases ha : p a <;> simp_all [Memory.read]

theorem Memory.mem_cells {a : Nat} {bs : List Byte} {c : Host.Cell} (h : c ∈ Memory.cells a bs) :
    a ≤ c.1 ∧ c.1 < a + bs.length ∧ c.2 ≠ 0#8 := by
  induction bs generalizing a with
  | nil => simp [Memory.cells] at h
  | cons b bs ih =>
    rw [Memory.cells] at h
    split at h
    · have := ih h
      simp only [List.length_cons]
      exact ⟨by omega, by omega, this.2.2⟩
    · rcases List.mem_cons.mp h with rfl | h
      · simp_all
      · have := ih h
        simp only [List.length_cons]
        exact ⟨by omega, by omega, this.2.2⟩

theorem Memory.read_cells (a : Nat) (bs : List Byte) (x : Nat) :
    Memory.read (Memory.cells a bs) x = if a ≤ x then bs.getD (x - a) 0#8 else 0#8 := by
  induction bs generalizing a with
  | nil => simp [Memory.cells, Memory.read]
  | cons b bs ih =>
    rw [Memory.cells]
    rcases Nat.lt_trichotomy x a with h | h | h
    · have h1 : ¬ a ≤ x := by omega
      have h2 : ¬ a + 1 ≤ x := by omega
      have h3 : a ≠ x := by omega
      split <;> simp [Memory.read, ih, h2, h3]
    · subst h
      have h2 : ¬ x + 1 ≤ x := by omega
      split <;> simp_all [Memory.read]
    · have h1 : a ≤ x := by omega
      have h2 : a + 1 ≤ x := by omega
      have h3 : a ≠ x := by omega
      obtain ⟨d, rfl⟩ : ∃ d, x = a + 1 + d := ⟨x - (a + 1), by omega⟩
      have h4 : a + 1 + d - a = d + 1 := by omega
      split <;> simp [Memory.read, ih, h3, h4]

/-- Read after write: the written bytes inside the range, the old bytes everywhere else. -/
theorem Memory.read_write (m : Memory) (a : Nat) (bs : List Byte) (x : Nat) :
    (m.write a bs).read x = if a ≤ x ∧ x < a + bs.length then bs.getD (x - a) 0#8 else m.read x := by
  rw [Memory.write]
  rcases Nat.lt_or_ge x a with h | h
  · rw [Memory.read_append_of_not_mem_right, Memory.read_filter m (fun k => decide (k < a))]
    · simp [h, show ¬ a ≤ x by omega]
    · intro c hc
      rcases List.mem_append.mp hc with hc | hc
      · have := Memory.mem_cells hc; omega
      · have := (List.mem_filter.mp hc).2; simp at this; omega
  · rw [Memory.read_append_of_not_mem]
    · rcases Nat.lt_or_ge x (a + bs.length) with h' | h'
      · rw [Memory.read_append_of_not_mem_right, Memory.read_cells]
        · simp [h, h']
        · intro c hc
          have := (List.mem_filter.mp hc).2; simp at this; omega
      · rw [Memory.read_append_of_not_mem, Memory.read_filter m (fun k => decide (a + bs.length ≤ k))]
        · simp [h', show ¬ x < a + bs.length by omega]
        · intro c hc
          have := Memory.mem_cells hc; omega
    · intro c hc
      have := (List.mem_filter.mp hc).2; simp at this; omega

/-- A zero-filled range reads zero, everything else as before. -/
theorem Memory.read_zeroFill (m : Memory) (n x : Nat) :
    (m.zeroFill n).read x = if n ≤ x then m.read x else 0#8 := by
  rw [Memory.zeroFill, Memory.read_filter m (fun k => decide (n ≤ k))]
  simp

theorem Memory.cells_sorted (a : Nat) (bs : List Byte) :
    (Memory.cells a bs).Pairwise fun c d => c.1 < d.1 := by
  induction bs generalizing a with
  | nil => simp [Memory.cells]
  | cons b bs ih =>
    rw [Memory.cells]
    split
    · exact ih _
    · refine List.pairwise_cons.mpr ⟨fun c hc => ?_, ih _⟩
      have := Memory.mem_cells hc
      simp only; omega

/-- The write keeps the canonical form. -/
theorem Memory.wf_write {m : Memory} (h : m.wf) (a : Nat) (bs : List Byte) : (m.write a bs).wf := by
  refine ⟨?_, ?_⟩
  · rw [Memory.write, List.pairwise_append, List.pairwise_append]
    refine ⟨h.1.filter _, ⟨Memory.cells_sorted a bs, h.1.filter _, ?_⟩, ?_⟩
    · intro c hc d hd
      have h1 := Memory.mem_cells hc
      have h2 := (List.mem_filter.mp hd).2
      simp at h2; omega
    · intro c hc d hd
      have h1 := (List.mem_filter.mp hc).2
      simp at h1
      rcases List.mem_append.mp hd with hd | hd
      · have := Memory.mem_cells hd; omega
      · have := (List.mem_filter.mp hd).2; simp at this; omega
  · intro c hc
    rw [Memory.write] at hc
    rcases List.mem_append.mp hc with hc | hc
    · exact h.2 c (List.mem_of_mem_filter hc)
    · rcases List.mem_append.mp hc with hc | hc
      · exact (Memory.mem_cells hc).2.2
      · exact h.2 c (List.mem_of_mem_filter hc)

/-- The zero-fill keeps the canonical form. -/
theorem Memory.wf_zeroFill {m : Memory} (h : m.wf) (n : Nat) : (m.zeroFill n).wf :=
  ⟨h.1.filter _, fun c hc => h.2 c (List.mem_of_mem_filter hc)⟩

@[simp] theorem Memory.readBytes_length (m : Memory) (a n : Nat) : (m.readBytes a n).length = n := by
  simp [Memory.readBytes]

/-- Byte `i` of a StoreRead's answer. -/
theorem Memory.getD_readBytes (m : Memory) {a n i : Nat} (h : i < n) : (m.readBytes a n).getD i 0#8 = m.read (a + i) := by
  simp [Memory.readBytes, h]

end Sys2Proof.Machine
end

