-- ==== Sys2Proof/Laws/State.lean ====
section
/-! SUPPORT. One lemma per field per named update of State, each true by rfl, so that no proof unfolds a record update. -/

namespace Sys2Proof.Machine

/-! Replacing an entry of the store changes nothing else. -/

@[simp] theorem setSeg_ph (i : Nat) (g : Segment) (s : State) : (setSeg i g s).ph = s.ph := rfl
@[simp] theorem setSeg_window (i : Nat) (g : Segment) (s : State) : (setSeg i g s).window = s.window := rfl
@[simp] theorem setSeg_frame (i : Nat) (g : Segment) (s : State) : (setSeg i g s).frame = s.frame := rfl
@[simp] theorem setSeg_fh (i : Nat) (g : Segment) (s : State) : (setSeg i g s).fh = s.fh := rfl
@[simp] theorem setSeg_pkAddr (i : Nat) (g : Segment) (s : State) : (setSeg i g s).pkAddr = s.pkAddr := rfl
@[simp] theorem setSeg_pkSample (i : Nat) (g : Segment) (s : State) : (setSeg i g s).pkSample = s.pkSample := rfl
@[simp] theorem setSeg_hdr0 (i : Nat) (g : Segment) (s : State) : (setSeg i g s).hdr0 = s.hdr0 := rfl
@[simp] theorem setSeg_hdr1 (i : Nat) (g : Segment) (s : State) : (setSeg i g s).hdr1 = s.hdr1 := rfl
@[simp] theorem setSeg_budget (i : Nat) (g : Segment) (s : State) : (setSeg i g s).budget = s.budget := rfl
@[simp] theorem setSeg_segBytes (i : Nat) (g : Segment) (s : State) : (setSeg i g s).segBytes = s.segBytes := rfl
@[simp] theorem setSeg_segCount (i : Nat) (g : Segment) (s : State) : (setSeg i g s).segCount = s.segCount := rfl
@[simp] theorem setSeg_slots (i : Nat) (g : Segment) (s : State) : (setSeg i g s).slots = s.slots := rfl
@[simp] theorem setSeg_capacity (i : Nat) (g : Segment) (s : State) : (setSeg i g s).capacity = s.capacity := rfl
@[simp] theorem setSeg_rot (i : Nat) (g : Segment) (s : State) : (setSeg i g s).rot = s.rot := rfl
@[simp] theorem setSeg_segIndex (i : Nat) (g : Segment) (s : State) : (setSeg i g s).segIndex = s.segIndex := rfl
@[simp] theorem setSeg_cursor (i : Nat) (g : Segment) (s : State) : (setSeg i g s).cursor = s.cursor := rfl
@[simp] theorem setSeg_sw (i : Nat) (g : Segment) (s : State) : (setSeg i g s).sw = s.sw := rfl
@[simp] theorem setSeg_exitCode (i : Nat) (g : Segment) (s : State) : (setSeg i g s).exitCode = s.exitCode := rfl
@[simp] theorem setSeg_cancelReq (i : Nat) (g : Segment) (s : State) : (setSeg i g s).cancelReq = s.cancelReq := rfl
@[simp] theorem setSeg_cmdErr (i : Nat) (g : Segment) (s : State) : (setSeg i g s).cmdErr = s.cmdErr := rfl
@[simp] theorem setSeg_cfgErr (i : Nat) (g : Segment) (s : State) : (setSeg i g s).cfgErr = s.cfgErr := rfl
@[simp] theorem setSeg_irqEn (i : Nat) (g : Segment) (s : State) : (setSeg i g s).irqEn = s.irqEn := rfl
@[simp] theorem setSeg_irqPend (i : Nat) (g : Segment) (s : State) : (setSeg i g s).irqPend = s.irqPend := rfl
@[simp] theorem setSeg_segs (i : Nat) (g : Segment) (s : State) : (setSeg i g s).segs = s.segs.set i g := rfl
@[simp] theorem setSeg_param (i : Nat) (g : Segment) (s : State) : (setSeg i g s).param = s.param := rfl
@[simp] theorem setSeg_segBytesMax (i : Nat) (g : Segment) (s : State) : (setSeg i g s).segBytesMax = s.segBytesMax := rfl
@[simp] theorem setSeg_segCountMax (i : Nat) (g : Segment) (s : State) : (setSeg i g s).segCountMax = s.segCountMax := rfl
@[simp] theorem setSeg_startWaiting (i : Nat) (g : Segment) (s : State) : (setSeg i g s).startWaiting = s.startWaiting := rfl
@[simp] theorem setSeg_reply (i : Nat) (g : Segment) (s : State) : (setSeg i g s).reply = s.reply := rfl
@[simp] theorem setSeg_draws (i : Nat) (g : Segment) (s : State) : (setSeg i g s).draws = s.draws := rfl
@[simp] theorem setSeg_input (i : Nat) (g : Segment) (s : State) : (setSeg i g s).input = s.input := rfl

/-! StoreOpen changes the store only. -/

@[simp] theorem storeOpen_ph (i : Nat) (s : State) : (storeOpen i s).ph = s.ph := rfl
@[simp] theorem storeOpen_window (i : Nat) (s : State) : (storeOpen i s).window = s.window := rfl
@[simp] theorem storeOpen_frame (i : Nat) (s : State) : (storeOpen i s).frame = s.frame := rfl
@[simp] theorem storeOpen_fh (i : Nat) (s : State) : (storeOpen i s).fh = s.fh := rfl
@[simp] theorem storeOpen_pkAddr (i : Nat) (s : State) : (storeOpen i s).pkAddr = s.pkAddr := rfl
@[simp] theorem storeOpen_pkSample (i : Nat) (s : State) : (storeOpen i s).pkSample = s.pkSample := rfl
@[simp] theorem storeOpen_hdr0 (i : Nat) (s : State) : (storeOpen i s).hdr0 = s.hdr0 := rfl
@[simp] theorem storeOpen_hdr1 (i : Nat) (s : State) : (storeOpen i s).hdr1 = s.hdr1 := rfl
@[simp] theorem storeOpen_budget (i : Nat) (s : State) : (storeOpen i s).budget = s.budget := rfl
@[simp] theorem storeOpen_segBytes (i : Nat) (s : State) : (storeOpen i s).segBytes = s.segBytes := rfl
@[simp] theorem storeOpen_segCount (i : Nat) (s : State) : (storeOpen i s).segCount = s.segCount := rfl
@[simp] theorem storeOpen_slots (i : Nat) (s : State) : (storeOpen i s).slots = s.slots := rfl
@[simp] theorem storeOpen_capacity (i : Nat) (s : State) : (storeOpen i s).capacity = s.capacity := rfl
@[simp] theorem storeOpen_rot (i : Nat) (s : State) : (storeOpen i s).rot = s.rot := rfl
@[simp] theorem storeOpen_segIndex (i : Nat) (s : State) : (storeOpen i s).segIndex = s.segIndex := rfl
@[simp] theorem storeOpen_cursor (i : Nat) (s : State) : (storeOpen i s).cursor = s.cursor := rfl
@[simp] theorem storeOpen_sw (i : Nat) (s : State) : (storeOpen i s).sw = s.sw := rfl
@[simp] theorem storeOpen_exitCode (i : Nat) (s : State) : (storeOpen i s).exitCode = s.exitCode := rfl
@[simp] theorem storeOpen_cancelReq (i : Nat) (s : State) : (storeOpen i s).cancelReq = s.cancelReq := rfl
@[simp] theorem storeOpen_cmdErr (i : Nat) (s : State) : (storeOpen i s).cmdErr = s.cmdErr := rfl
@[simp] theorem storeOpen_cfgErr (i : Nat) (s : State) : (storeOpen i s).cfgErr = s.cfgErr := rfl
@[simp] theorem storeOpen_irqEn (i : Nat) (s : State) : (storeOpen i s).irqEn = s.irqEn := rfl
@[simp] theorem storeOpen_irqPend (i : Nat) (s : State) : (storeOpen i s).irqPend = s.irqPend := rfl
@[simp] theorem storeOpen_param (i : Nat) (s : State) : (storeOpen i s).param = s.param := rfl
@[simp] theorem storeOpen_segBytesMax (i : Nat) (s : State) : (storeOpen i s).segBytesMax = s.segBytesMax := rfl
@[simp] theorem storeOpen_segCountMax (i : Nat) (s : State) : (storeOpen i s).segCountMax = s.segCountMax := rfl
@[simp] theorem storeOpen_startWaiting (i : Nat) (s : State) : (storeOpen i s).startWaiting = s.startWaiting := rfl
@[simp] theorem storeOpen_reply (i : Nat) (s : State) : (storeOpen i s).reply = s.reply := rfl
@[simp] theorem storeOpen_draws (i : Nat) (s : State) : (storeOpen i s).draws = s.draws := rfl
@[simp] theorem storeOpen_input (i : Nat) (s : State) : (storeOpen i s).input = s.input := rfl

/-! StoreWrite changes the store only. -/

@[simp] theorem storeWrite_ph (i off : Nat) (bs : List Byte) (s : State) : (storeWrite i off bs s).ph = s.ph := rfl
@[simp] theorem storeWrite_window (i off : Nat) (bs : List Byte) (s : State) : (storeWrite i off bs s).window = s.window := rfl
@[simp] theorem storeWrite_frame (i off : Nat) (bs : List Byte) (s : State) : (storeWrite i off bs s).frame = s.frame := rfl
@[simp] theorem storeWrite_fh (i off : Nat) (bs : List Byte) (s : State) : (storeWrite i off bs s).fh = s.fh := rfl
@[simp] theorem storeWrite_pkAddr (i off : Nat) (bs : List Byte) (s : State) : (storeWrite i off bs s).pkAddr = s.pkAddr := rfl
@[simp] theorem storeWrite_pkSample (i off : Nat) (bs : List Byte) (s : State) : (storeWrite i off bs s).pkSample = s.pkSample := rfl
@[simp] theorem storeWrite_hdr0 (i off : Nat) (bs : List Byte) (s : State) : (storeWrite i off bs s).hdr0 = s.hdr0 := rfl
@[simp] theorem storeWrite_hdr1 (i off : Nat) (bs : List Byte) (s : State) : (storeWrite i off bs s).hdr1 = s.hdr1 := rfl
@[simp] theorem storeWrite_budget (i off : Nat) (bs : List Byte) (s : State) : (storeWrite i off bs s).budget = s.budget := rfl
@[simp] theorem storeWrite_segBytes (i off : Nat) (bs : List Byte) (s : State) : (storeWrite i off bs s).segBytes = s.segBytes := rfl
@[simp] theorem storeWrite_segCount (i off : Nat) (bs : List Byte) (s : State) : (storeWrite i off bs s).segCount = s.segCount := rfl
@[simp] theorem storeWrite_slots (i off : Nat) (bs : List Byte) (s : State) : (storeWrite i off bs s).slots = s.slots := rfl
@[simp] theorem storeWrite_capacity (i off : Nat) (bs : List Byte) (s : State) : (storeWrite i off bs s).capacity = s.capacity := rfl
@[simp] theorem storeWrite_rot (i off : Nat) (bs : List Byte) (s : State) : (storeWrite i off bs s).rot = s.rot := rfl
@[simp] theorem storeWrite_segIndex (i off : Nat) (bs : List Byte) (s : State) : (storeWrite i off bs s).segIndex = s.segIndex := rfl
@[simp] theorem storeWrite_cursor (i off : Nat) (bs : List Byte) (s : State) : (storeWrite i off bs s).cursor = s.cursor := rfl
@[simp] theorem storeWrite_sw (i off : Nat) (bs : List Byte) (s : State) : (storeWrite i off bs s).sw = s.sw := rfl
@[simp] theorem storeWrite_exitCode (i off : Nat) (bs : List Byte) (s : State) : (storeWrite i off bs s).exitCode = s.exitCode := rfl
@[simp] theorem storeWrite_cancelReq (i off : Nat) (bs : List Byte) (s : State) : (storeWrite i off bs s).cancelReq = s.cancelReq := rfl
@[simp] theorem storeWrite_cmdErr (i off : Nat) (bs : List Byte) (s : State) : (storeWrite i off bs s).cmdErr = s.cmdErr := rfl
@[simp] theorem storeWrite_cfgErr (i off : Nat) (bs : List Byte) (s : State) : (storeWrite i off bs s).cfgErr = s.cfgErr := rfl
@[simp] theorem storeWrite_irqEn (i off : Nat) (bs : List Byte) (s : State) : (storeWrite i off bs s).irqEn = s.irqEn := rfl
@[simp] theorem storeWrite_irqPend (i off : Nat) (bs : List Byte) (s : State) : (storeWrite i off bs s).irqPend = s.irqPend := rfl
@[simp] theorem storeWrite_param (i off : Nat) (bs : List Byte) (s : State) : (storeWrite i off bs s).param = s.param := rfl
@[simp] theorem storeWrite_segBytesMax (i off : Nat) (bs : List Byte) (s : State) : (storeWrite i off bs s).segBytesMax = s.segBytesMax := rfl
@[simp] theorem storeWrite_segCountMax (i off : Nat) (bs : List Byte) (s : State) : (storeWrite i off bs s).segCountMax = s.segCountMax := rfl
@[simp] theorem storeWrite_startWaiting (i off : Nat) (bs : List Byte) (s : State) : (storeWrite i off bs s).startWaiting = s.startWaiting := rfl
@[simp] theorem storeWrite_reply (i off : Nat) (bs : List Byte) (s : State) : (storeWrite i off bs s).reply = s.reply := rfl
@[simp] theorem storeWrite_draws (i off : Nat) (bs : List Byte) (s : State) : (storeWrite i off bs s).draws = s.draws := rfl
@[simp] theorem storeWrite_input (i off : Nat) (bs : List Byte) (s : State) : (storeWrite i off bs s).input = s.input := rfl

/-! StoreRelease changes the store only. -/

@[simp] theorem storeRelease_ph (i : Nat) (s : State) : (storeRelease i s).ph = s.ph := rfl
@[simp] theorem storeRelease_window (i : Nat) (s : State) : (storeRelease i s).window = s.window := rfl
@[simp] theorem storeRelease_frame (i : Nat) (s : State) : (storeRelease i s).frame = s.frame := rfl
@[simp] theorem storeRelease_fh (i : Nat) (s : State) : (storeRelease i s).fh = s.fh := rfl
@[simp] theorem storeRelease_pkAddr (i : Nat) (s : State) : (storeRelease i s).pkAddr = s.pkAddr := rfl
@[simp] theorem storeRelease_pkSample (i : Nat) (s : State) : (storeRelease i s).pkSample = s.pkSample := rfl
@[simp] theorem storeRelease_hdr0 (i : Nat) (s : State) : (storeRelease i s).hdr0 = s.hdr0 := rfl
@[simp] theorem storeRelease_hdr1 (i : Nat) (s : State) : (storeRelease i s).hdr1 = s.hdr1 := rfl
@[simp] theorem storeRelease_budget (i : Nat) (s : State) : (storeRelease i s).budget = s.budget := rfl
@[simp] theorem storeRelease_segBytes (i : Nat) (s : State) : (storeRelease i s).segBytes = s.segBytes := rfl
@[simp] theorem storeRelease_segCount (i : Nat) (s : State) : (storeRelease i s).segCount = s.segCount := rfl
@[simp] theorem storeRelease_slots (i : Nat) (s : State) : (storeRelease i s).slots = s.slots := rfl
@[simp] theorem storeRelease_capacity (i : Nat) (s : State) : (storeRelease i s).capacity = s.capacity := rfl
@[simp] theorem storeRelease_rot (i : Nat) (s : State) : (storeRelease i s).rot = s.rot := rfl
@[simp] theorem storeRelease_segIndex (i : Nat) (s : State) : (storeRelease i s).segIndex = s.segIndex := rfl
@[simp] theorem storeRelease_cursor (i : Nat) (s : State) : (storeRelease i s).cursor = s.cursor := rfl
@[simp] theorem storeRelease_sw (i : Nat) (s : State) : (storeRelease i s).sw = s.sw := rfl
@[simp] theorem storeRelease_exitCode (i : Nat) (s : State) : (storeRelease i s).exitCode = s.exitCode := rfl
@[simp] theorem storeRelease_cancelReq (i : Nat) (s : State) : (storeRelease i s).cancelReq = s.cancelReq := rfl
@[simp] theorem storeRelease_cmdErr (i : Nat) (s : State) : (storeRelease i s).cmdErr = s.cmdErr := rfl
@[simp] theorem storeRelease_cfgErr (i : Nat) (s : State) : (storeRelease i s).cfgErr = s.cfgErr := rfl
@[simp] theorem storeRelease_irqEn (i : Nat) (s : State) : (storeRelease i s).irqEn = s.irqEn := rfl
@[simp] theorem storeRelease_irqPend (i : Nat) (s : State) : (storeRelease i s).irqPend = s.irqPend := rfl
@[simp] theorem storeRelease_param (i : Nat) (s : State) : (storeRelease i s).param = s.param := rfl
@[simp] theorem storeRelease_segBytesMax (i : Nat) (s : State) : (storeRelease i s).segBytesMax = s.segBytesMax := rfl
@[simp] theorem storeRelease_segCountMax (i : Nat) (s : State) : (storeRelease i s).segCountMax = s.segCountMax := rfl
@[simp] theorem storeRelease_startWaiting (i : Nat) (s : State) : (storeRelease i s).startWaiting = s.startWaiting := rfl
@[simp] theorem storeRelease_reply (i : Nat) (s : State) : (storeRelease i s).reply = s.reply := rfl
@[simp] theorem storeRelease_draws (i : Nat) (s : State) : (storeRelease i s).draws = s.draws := rfl
@[simp] theorem storeRelease_input (i : Nat) (s : State) : (storeRelease i s).input = s.input := rfl

/-! Releasing the active segment changes the store only. -/

@[simp] theorem releaseActive_ph (s : State) : (releaseActive s).ph = s.ph := rfl
@[simp] theorem releaseActive_window (s : State) : (releaseActive s).window = s.window := rfl
@[simp] theorem releaseActive_frame (s : State) : (releaseActive s).frame = s.frame := rfl
@[simp] theorem releaseActive_fh (s : State) : (releaseActive s).fh = s.fh := rfl
@[simp] theorem releaseActive_pkAddr (s : State) : (releaseActive s).pkAddr = s.pkAddr := rfl
@[simp] theorem releaseActive_pkSample (s : State) : (releaseActive s).pkSample = s.pkSample := rfl
@[simp] theorem releaseActive_hdr0 (s : State) : (releaseActive s).hdr0 = s.hdr0 := rfl
@[simp] theorem releaseActive_hdr1 (s : State) : (releaseActive s).hdr1 = s.hdr1 := rfl
@[simp] theorem releaseActive_budget (s : State) : (releaseActive s).budget = s.budget := rfl
@[simp] theorem releaseActive_segBytes (s : State) : (releaseActive s).segBytes = s.segBytes := rfl
@[simp] theorem releaseActive_segCount (s : State) : (releaseActive s).segCount = s.segCount := rfl
@[simp] theorem releaseActive_slots (s : State) : (releaseActive s).slots = s.slots := rfl
@[simp] theorem releaseActive_capacity (s : State) : (releaseActive s).capacity = s.capacity := rfl
@[simp] theorem releaseActive_rot (s : State) : (releaseActive s).rot = s.rot := rfl
@[simp] theorem releaseActive_segIndex (s : State) : (releaseActive s).segIndex = s.segIndex := rfl
@[simp] theorem releaseActive_cursor (s : State) : (releaseActive s).cursor = s.cursor := rfl
@[simp] theorem releaseActive_sw (s : State) : (releaseActive s).sw = s.sw := rfl
@[simp] theorem releaseActive_exitCode (s : State) : (releaseActive s).exitCode = s.exitCode := rfl
@[simp] theorem releaseActive_cancelReq (s : State) : (releaseActive s).cancelReq = s.cancelReq := rfl
@[simp] theorem releaseActive_cmdErr (s : State) : (releaseActive s).cmdErr = s.cmdErr := rfl
@[simp] theorem releaseActive_cfgErr (s : State) : (releaseActive s).cfgErr = s.cfgErr := rfl
@[simp] theorem releaseActive_irqEn (s : State) : (releaseActive s).irqEn = s.irqEn := rfl
@[simp] theorem releaseActive_irqPend (s : State) : (releaseActive s).irqPend = s.irqPend := rfl
@[simp] theorem releaseActive_segs (s : State) : (releaseActive s).segs = s.segs.map fun g => { g with active := false } := rfl
@[simp] theorem releaseActive_param (s : State) : (releaseActive s).param = s.param := rfl
@[simp] theorem releaseActive_segBytesMax (s : State) : (releaseActive s).segBytesMax = s.segBytesMax := rfl
@[simp] theorem releaseActive_segCountMax (s : State) : (releaseActive s).segCountMax = s.segCountMax := rfl
@[simp] theorem releaseActive_startWaiting (s : State) : (releaseActive s).startWaiting = s.startWaiting := rfl
@[simp] theorem releaseActive_reply (s : State) : (releaseActive s).reply = s.reply := rfl
@[simp] theorem releaseActive_draws (s : State) : (releaseActive s).draws = s.draws := rfl
@[simp] theorem releaseActive_input (s : State) : (releaseActive s).input = s.input := rfl

/-! FH ← 0 frees F and nothing else. -/

@[simp] theorem forgetFrame_ph (s : State) : (forgetFrame s).ph = s.ph := rfl
@[simp] theorem forgetFrame_window (s : State) : (forgetFrame s).window = s.window := rfl
@[simp] theorem forgetFrame_frame (s : State) : (forgetFrame s).frame = freeFrame s.draws := rfl
@[simp] theorem forgetFrame_fh (s : State) : (forgetFrame s).fh = false := rfl
@[simp] theorem forgetFrame_pkAddr (s : State) : (forgetFrame s).pkAddr = s.pkAddr := rfl
@[simp] theorem forgetFrame_pkSample (s : State) : (forgetFrame s).pkSample = s.pkSample := rfl
@[simp] theorem forgetFrame_hdr0 (s : State) : (forgetFrame s).hdr0 = s.hdr0 := rfl
@[simp] theorem forgetFrame_hdr1 (s : State) : (forgetFrame s).hdr1 = s.hdr1 := rfl
@[simp] theorem forgetFrame_budget (s : State) : (forgetFrame s).budget = s.budget := rfl
@[simp] theorem forgetFrame_segBytes (s : State) : (forgetFrame s).segBytes = s.segBytes := rfl
@[simp] theorem forgetFrame_segCount (s : State) : (forgetFrame s).segCount = s.segCount := rfl
@[simp] theorem forgetFrame_slots (s : State) : (forgetFrame s).slots = s.slots := rfl
@[simp] theorem forgetFrame_capacity (s : State) : (forgetFrame s).capacity = s.capacity := rfl
@[simp] theorem forgetFrame_rot (s : State) : (forgetFrame s).rot = s.rot := rfl
@[simp] theorem forgetFrame_segIndex (s : State) : (forgetFrame s).segIndex = s.segIndex := rfl
@[simp] theorem forgetFrame_cursor (s : State) : (forgetFrame s).cursor = s.cursor := rfl
@[simp] theorem forgetFrame_sw (s : State) : (forgetFrame s).sw = s.sw := rfl
@[simp] theorem forgetFrame_exitCode (s : State) : (forgetFrame s).exitCode = s.exitCode := rfl
@[simp] theorem forgetFrame_cancelReq (s : State) : (forgetFrame s).cancelReq = s.cancelReq := rfl
@[simp] theorem forgetFrame_cmdErr (s : State) : (forgetFrame s).cmdErr = s.cmdErr := rfl
@[simp] theorem forgetFrame_cfgErr (s : State) : (forgetFrame s).cfgErr = s.cfgErr := rfl
@[simp] theorem forgetFrame_irqEn (s : State) : (forgetFrame s).irqEn = s.irqEn := rfl
@[simp] theorem forgetFrame_irqPend (s : State) : (forgetFrame s).irqPend = s.irqPend := rfl
@[simp] theorem forgetFrame_segs (s : State) : (forgetFrame s).segs = s.segs := rfl
@[simp] theorem forgetFrame_param (s : State) : (forgetFrame s).param = s.param := rfl
@[simp] theorem forgetFrame_segBytesMax (s : State) : (forgetFrame s).segBytesMax = s.segBytesMax := rfl
@[simp] theorem forgetFrame_segCountMax (s : State) : (forgetFrame s).segCountMax = s.segCountMax := rfl
@[simp] theorem forgetFrame_startWaiting (s : State) : (forgetFrame s).startWaiting = s.startWaiting := rfl
@[simp] theorem forgetFrame_reply (s : State) : (forgetFrame s).reply = s.reply := rfl
@[simp] theorem forgetFrame_draws (s : State) : (forgetFrame s).draws = s.draws + 1 := rfl
@[simp] theorem forgetFrame_input (s : State) : (forgetFrame s).input = s.input := rfl

/-! Leaving DELIVER frees the packet registers and nothing else. -/

@[simp] theorem forgetPacket_ph (s : State) : (forgetPacket s).ph = s.ph := rfl
@[simp] theorem forgetPacket_window (s : State) : (forgetPacket s).window = s.window := rfl
@[simp] theorem forgetPacket_frame (s : State) : (forgetPacket s).frame = s.frame := rfl
@[simp] theorem forgetPacket_fh (s : State) : (forgetPacket s).fh = s.fh := rfl
@[simp] theorem forgetPacket_pkAddr (s : State) : (forgetPacket s).pkAddr = freeAddress s.draws := rfl
@[simp] theorem forgetPacket_pkSample (s : State) : (forgetPacket s).pkSample = freeSamples s.draws := rfl
@[simp] theorem forgetPacket_hdr0 (s : State) : (forgetPacket s).hdr0 = s.hdr0 := rfl
@[simp] theorem forgetPacket_hdr1 (s : State) : (forgetPacket s).hdr1 = s.hdr1 := rfl
@[simp] theorem forgetPacket_budget (s : State) : (forgetPacket s).budget = s.budget := rfl
@[simp] theorem forgetPacket_segBytes (s : State) : (forgetPacket s).segBytes = s.segBytes := rfl
@[simp] theorem forgetPacket_segCount (s : State) : (forgetPacket s).segCount = s.segCount := rfl
@[simp] theorem forgetPacket_slots (s : State) : (forgetPacket s).slots = s.slots := rfl
@[simp] theorem forgetPacket_capacity (s : State) : (forgetPacket s).capacity = s.capacity := rfl
@[simp] theorem forgetPacket_rot (s : State) : (forgetPacket s).rot = s.rot := rfl
@[simp] theorem forgetPacket_segIndex (s : State) : (forgetPacket s).segIndex = s.segIndex := rfl
@[simp] theorem forgetPacket_cursor (s : State) : (forgetPacket s).cursor = s.cursor := rfl
@[simp] theorem forgetPacket_sw (s : State) : (forgetPacket s).sw = s.sw := rfl
@[simp] theorem forgetPacket_exitCode (s : State) : (forgetPacket s).exitCode = s.exitCode := rfl
@[simp] theorem forgetPacket_cancelReq (s : State) : (forgetPacket s).cancelReq = s.cancelReq := rfl
@[simp] theorem forgetPacket_cmdErr (s : State) : (forgetPacket s).cmdErr = s.cmdErr := rfl
@[simp] theorem forgetPacket_cfgErr (s : State) : (forgetPacket s).cfgErr = s.cfgErr := rfl
@[simp] theorem forgetPacket_irqEn (s : State) : (forgetPacket s).irqEn = s.irqEn := rfl
@[simp] theorem forgetPacket_irqPend (s : State) : (forgetPacket s).irqPend = s.irqPend := rfl
@[simp] theorem forgetPacket_segs (s : State) : (forgetPacket s).segs = s.segs := rfl
@[simp] theorem forgetPacket_param (s : State) : (forgetPacket s).param = s.param := rfl
@[simp] theorem forgetPacket_segBytesMax (s : State) : (forgetPacket s).segBytesMax = s.segBytesMax := rfl
@[simp] theorem forgetPacket_segCountMax (s : State) : (forgetPacket s).segCountMax = s.segCountMax := rfl
@[simp] theorem forgetPacket_startWaiting (s : State) : (forgetPacket s).startWaiting = s.startWaiting := rfl
@[simp] theorem forgetPacket_reply (s : State) : (forgetPacket s).reply = s.reply := rfl
@[simp] theorem forgetPacket_draws (s : State) : (forgetPacket s).draws = s.draws + 1 := rfl
@[simp] theorem forgetPacket_input (s : State) : (forgetPacket s).input = s.input := rfl

/-! The fatal path, field by field (60_exceptions.md R316). -/

@[simp] theorem fatal_ph (code : ExitCode) (s : State) : (fatal code s).ph = .fault := rfl
@[simp] theorem fatal_window (code : ExitCode) (s : State) : (fatal code s).window = s.window := rfl
@[simp] theorem fatal_frame (code : ExitCode) (s : State) : (fatal code s).frame = freeFrame s.draws := rfl
@[simp] theorem fatal_fh (code : ExitCode) (s : State) : (fatal code s).fh = false := rfl
@[simp] theorem fatal_pkAddr (code : ExitCode) (s : State) : (fatal code s).pkAddr = s.pkAddr := rfl
@[simp] theorem fatal_pkSample (code : ExitCode) (s : State) : (fatal code s).pkSample = s.pkSample := rfl
@[simp] theorem fatal_hdr0 (code : ExitCode) (s : State) : (fatal code s).hdr0 = s.hdr0 := rfl
@[simp] theorem fatal_hdr1 (code : ExitCode) (s : State) : (fatal code s).hdr1 = s.hdr1 := rfl
@[simp] theorem fatal_budget (code : ExitCode) (s : State) : (fatal code s).budget = s.budget := rfl
@[simp] theorem fatal_segBytes (code : ExitCode) (s : State) : (fatal code s).segBytes = s.segBytes := rfl
@[simp] theorem fatal_segCount (code : ExitCode) (s : State) : (fatal code s).segCount = s.segCount := rfl
@[simp] theorem fatal_slots (code : ExitCode) (s : State) : (fatal code s).slots = s.slots := rfl
@[simp] theorem fatal_capacity (code : ExitCode) (s : State) : (fatal code s).capacity = s.capacity := rfl
@[simp] theorem fatal_rot (code : ExitCode) (s : State) : (fatal code s).rot = .noSegment := rfl
@[simp] theorem fatal_segIndex (code : ExitCode) (s : State) : (fatal code s).segIndex = s.segIndex := rfl
@[simp] theorem fatal_cursor (code : ExitCode) (s : State) : (fatal code s).cursor = s.cursor := rfl
@[simp] theorem fatal_sw (code : ExitCode) (s : State) : (fatal code s).sw = s.sw := rfl
@[simp] theorem fatal_exitCode (code : ExitCode) (s : State) : (fatal code s).exitCode = code := rfl
@[simp] theorem fatal_cancelReq (code : ExitCode) (s : State) : (fatal code s).cancelReq = false := rfl
@[simp] theorem fatal_cmdErr (code : ExitCode) (s : State) : (fatal code s).cmdErr = s.cmdErr := rfl
@[simp] theorem fatal_cfgErr (code : ExitCode) (s : State) : (fatal code s).cfgErr = s.cfgErr := rfl
@[simp] theorem fatal_irqEn (code : ExitCode) (s : State) : (fatal code s).irqEn = s.irqEn := rfl
@[simp] theorem fatal_irqPend (code : ExitCode) (s : State) : (fatal code s).irqPend = true := rfl
@[simp] theorem fatal_segs (code : ExitCode) (s : State) : (fatal code s).segs = s.segs.map fun g => { g with active := false } := rfl
@[simp] theorem fatal_param (code : ExitCode) (s : State) : (fatal code s).param = s.param := rfl
@[simp] theorem fatal_segBytesMax (code : ExitCode) (s : State) : (fatal code s).segBytesMax = s.segBytesMax := rfl
@[simp] theorem fatal_segCountMax (code : ExitCode) (s : State) : (fatal code s).segCountMax = s.segCountMax := rfl
@[simp] theorem fatal_startWaiting (code : ExitCode) (s : State) : (fatal code s).startWaiting = s.startWaiting := rfl
@[simp] theorem fatal_reply (code : ExitCode) (s : State) : (fatal code s).reply = s.reply := rfl
@[simp] theorem fatal_draws (code : ExitCode) (s : State) : (fatal code s).draws = s.draws + 1 := rfl
@[simp] theorem fatal_input (code : ExitCode) (s : State) : (fatal code s).input = s.input := rfl

/-! DECODE writes the packet registers only (42_decode.md R200). -/

@[simp] theorem decodeFrame_ph (s : State) : (decodeFrame s).ph = s.ph := rfl
@[simp] theorem decodeFrame_window (s : State) : (decodeFrame s).window = s.window := rfl
@[simp] theorem decodeFrame_frame (s : State) : (decodeFrame s).frame = s.frame := rfl
@[simp] theorem decodeFrame_fh (s : State) : (decodeFrame s).fh = s.fh := rfl
@[simp] theorem decodeFrame_pkAddr (s : State) : (decodeFrame s).pkAddr = frameAddress s.frame := rfl
@[simp] theorem decodeFrame_pkSample (s : State) : (decodeFrame s).pkSample = frameSamples s.frame := rfl
@[simp] theorem decodeFrame_hdr0 (s : State) : (decodeFrame s).hdr0 = s.hdr0 := rfl
@[simp] theorem decodeFrame_hdr1 (s : State) : (decodeFrame s).hdr1 = s.hdr1 := rfl
@[simp] theorem decodeFrame_budget (s : State) : (decodeFrame s).budget = s.budget := rfl
@[simp] theorem decodeFrame_segBytes (s : State) : (decodeFrame s).segBytes = s.segBytes := rfl
@[simp] theorem decodeFrame_segCount (s : State) : (decodeFrame s).segCount = s.segCount := rfl
@[simp] theorem decodeFrame_slots (s : State) : (decodeFrame s).slots = s.slots := rfl
@[simp] theorem decodeFrame_capacity (s : State) : (decodeFrame s).capacity = s.capacity := rfl
@[simp] theorem decodeFrame_rot (s : State) : (decodeFrame s).rot = s.rot := rfl
@[simp] theorem decodeFrame_segIndex (s : State) : (decodeFrame s).segIndex = s.segIndex := rfl
@[simp] theorem decodeFrame_cursor (s : State) : (decodeFrame s).cursor = s.cursor := rfl
@[simp] theorem decodeFrame_sw (s : State) : (decodeFrame s).sw = s.sw := rfl
@[simp] theorem decodeFrame_exitCode (s : State) : (decodeFrame s).exitCode = s.exitCode := rfl
@[simp] theorem decodeFrame_cancelReq (s : State) : (decodeFrame s).cancelReq = s.cancelReq := rfl
@[simp] theorem decodeFrame_cmdErr (s : State) : (decodeFrame s).cmdErr = s.cmdErr := rfl
@[simp] theorem decodeFrame_cfgErr (s : State) : (decodeFrame s).cfgErr = s.cfgErr := rfl
@[simp] theorem decodeFrame_irqEn (s : State) : (decodeFrame s).irqEn = s.irqEn := rfl
@[simp] theorem decodeFrame_irqPend (s : State) : (decodeFrame s).irqPend = s.irqPend := rfl
@[simp] theorem decodeFrame_segs (s : State) : (decodeFrame s).segs = s.segs := rfl
@[simp] theorem decodeFrame_param (s : State) : (decodeFrame s).param = s.param := rfl
@[simp] theorem decodeFrame_segBytesMax (s : State) : (decodeFrame s).segBytesMax = s.segBytesMax := rfl
@[simp] theorem decodeFrame_segCountMax (s : State) : (decodeFrame s).segCountMax = s.segCountMax := rfl
@[simp] theorem decodeFrame_startWaiting (s : State) : (decodeFrame s).startWaiting = s.startWaiting := rfl
@[simp] theorem decodeFrame_reply (s : State) : (decodeFrame s).reply = s.reply := rfl
@[simp] theorem decodeFrame_draws (s : State) : (decodeFrame s).draws = s.draws := rfl
@[simp] theorem decodeFrame_input (s : State) : (decodeFrame s).input = s.input := rfl

/-! The release at a rotation counts seg_index on. -/

@[simp] theorem releaseFull_ph (s : State) : (releaseFull s).ph = s.ph := rfl
@[simp] theorem releaseFull_window (s : State) : (releaseFull s).window = s.window := rfl
@[simp] theorem releaseFull_frame (s : State) : (releaseFull s).frame = s.frame := rfl
@[simp] theorem releaseFull_fh (s : State) : (releaseFull s).fh = s.fh := rfl
@[simp] theorem releaseFull_pkAddr (s : State) : (releaseFull s).pkAddr = s.pkAddr := rfl
@[simp] theorem releaseFull_pkSample (s : State) : (releaseFull s).pkSample = s.pkSample := rfl
@[simp] theorem releaseFull_hdr0 (s : State) : (releaseFull s).hdr0 = s.hdr0 := rfl
@[simp] theorem releaseFull_hdr1 (s : State) : (releaseFull s).hdr1 = s.hdr1 := rfl
@[simp] theorem releaseFull_budget (s : State) : (releaseFull s).budget = s.budget := rfl
@[simp] theorem releaseFull_segBytes (s : State) : (releaseFull s).segBytes = s.segBytes := rfl
@[simp] theorem releaseFull_segCount (s : State) : (releaseFull s).segCount = s.segCount := rfl
@[simp] theorem releaseFull_slots (s : State) : (releaseFull s).slots = s.slots := rfl
@[simp] theorem releaseFull_capacity (s : State) : (releaseFull s).capacity = s.capacity := rfl
@[simp] theorem releaseFull_rot (s : State) : (releaseFull s).rot = s.rot := rfl
@[simp] theorem releaseFull_segIndex (s : State) : (releaseFull s).segIndex = s.segIndex + 1#32 := rfl
@[simp] theorem releaseFull_cursor (s : State) : (releaseFull s).cursor = s.cursor := rfl
@[simp] theorem releaseFull_sw (s : State) : (releaseFull s).sw = s.sw := rfl
@[simp] theorem releaseFull_exitCode (s : State) : (releaseFull s).exitCode = s.exitCode := rfl
@[simp] theorem releaseFull_cancelReq (s : State) : (releaseFull s).cancelReq = s.cancelReq := rfl
@[simp] theorem releaseFull_cmdErr (s : State) : (releaseFull s).cmdErr = s.cmdErr := rfl
@[simp] theorem releaseFull_cfgErr (s : State) : (releaseFull s).cfgErr = s.cfgErr := rfl
@[simp] theorem releaseFull_irqEn (s : State) : (releaseFull s).irqEn = s.irqEn := rfl
@[simp] theorem releaseFull_irqPend (s : State) : (releaseFull s).irqPend = s.irqPend := rfl
@[simp] theorem releaseFull_param (s : State) : (releaseFull s).param = s.param := rfl
@[simp] theorem releaseFull_segBytesMax (s : State) : (releaseFull s).segBytesMax = s.segBytesMax := rfl
@[simp] theorem releaseFull_segCountMax (s : State) : (releaseFull s).segCountMax = s.segCountMax := rfl
@[simp] theorem releaseFull_startWaiting (s : State) : (releaseFull s).startWaiting = s.startWaiting := rfl
@[simp] theorem releaseFull_reply (s : State) : (releaseFull s).reply = s.reply := rfl
@[simp] theorem releaseFull_draws (s : State) : (releaseFull s).draws = s.draws := rfl
@[simp] theorem releaseFull_input (s : State) : (releaseFull s).input = s.input := rfl

/-! ph ← CHECK changes the phase only. -/

@[simp] theorem toCheck_ph (s : State) : (toCheck s).ph = .check := rfl
@[simp] theorem toCheck_window (s : State) : (toCheck s).window = s.window := rfl
@[simp] theorem toCheck_frame (s : State) : (toCheck s).frame = s.frame := rfl
@[simp] theorem toCheck_fh (s : State) : (toCheck s).fh = s.fh := rfl
@[simp] theorem toCheck_pkAddr (s : State) : (toCheck s).pkAddr = s.pkAddr := rfl
@[simp] theorem toCheck_pkSample (s : State) : (toCheck s).pkSample = s.pkSample := rfl
@[simp] theorem toCheck_hdr0 (s : State) : (toCheck s).hdr0 = s.hdr0 := rfl
@[simp] theorem toCheck_hdr1 (s : State) : (toCheck s).hdr1 = s.hdr1 := rfl
@[simp] theorem toCheck_budget (s : State) : (toCheck s).budget = s.budget := rfl
@[simp] theorem toCheck_segBytes (s : State) : (toCheck s).segBytes = s.segBytes := rfl
@[simp] theorem toCheck_segCount (s : State) : (toCheck s).segCount = s.segCount := rfl
@[simp] theorem toCheck_slots (s : State) : (toCheck s).slots = s.slots := rfl
@[simp] theorem toCheck_capacity (s : State) : (toCheck s).capacity = s.capacity := rfl
@[simp] theorem toCheck_rot (s : State) : (toCheck s).rot = s.rot := rfl
@[simp] theorem toCheck_segIndex (s : State) : (toCheck s).segIndex = s.segIndex := rfl
@[simp] theorem toCheck_cursor (s : State) : (toCheck s).cursor = s.cursor := rfl
@[simp] theorem toCheck_sw (s : State) : (toCheck s).sw = s.sw := rfl
@[simp] theorem toCheck_exitCode (s : State) : (toCheck s).exitCode = s.exitCode := rfl
@[simp] theorem toCheck_cancelReq (s : State) : (toCheck s).cancelReq = s.cancelReq := rfl
@[simp] theorem toCheck_cmdErr (s : State) : (toCheck s).cmdErr = s.cmdErr := rfl
@[simp] theorem toCheck_cfgErr (s : State) : (toCheck s).cfgErr = s.cfgErr := rfl
@[simp] theorem toCheck_irqEn (s : State) : (toCheck s).irqEn = s.irqEn := rfl
@[simp] theorem toCheck_irqPend (s : State) : (toCheck s).irqPend = s.irqPend := rfl
@[simp] theorem toCheck_segs (s : State) : (toCheck s).segs = s.segs := rfl
@[simp] theorem toCheck_param (s : State) : (toCheck s).param = s.param := rfl
@[simp] theorem toCheck_segBytesMax (s : State) : (toCheck s).segBytesMax = s.segBytesMax := rfl
@[simp] theorem toCheck_segCountMax (s : State) : (toCheck s).segCountMax = s.segCountMax := rfl
@[simp] theorem toCheck_startWaiting (s : State) : (toCheck s).startWaiting = s.startWaiting := rfl
@[simp] theorem toCheck_reply (s : State) : (toCheck s).reply = s.reply := rfl
@[simp] theorem toCheck_draws (s : State) : (toCheck s).draws = s.draws := rfl
@[simp] theorem toCheck_input (s : State) : (toCheck s).input = s.input := rfl

/-! What START sets before it opens segment 0 (45_host_commands.md R282). -/

@[simp] theorem initSession_ph (s : State) : (initSession s).ph = s.ph := rfl
@[simp] theorem initSession_window (s : State) : (initSession s).window = [] := rfl
@[simp] theorem initSession_frame (s : State) : (initSession s).frame = freeFrame s.draws := rfl
@[simp] theorem initSession_fh (s : State) : (initSession s).fh = false := rfl
@[simp] theorem initSession_pkAddr (s : State) : (initSession s).pkAddr = s.pkAddr := rfl
@[simp] theorem initSession_pkSample (s : State) : (initSession s).pkSample = s.pkSample := rfl
@[simp] theorem initSession_hdr0 (s : State) : (initSession s).hdr0 = s.hdr0 := rfl
@[simp] theorem initSession_hdr1 (s : State) : (initSession s).hdr1 = s.hdr1 := rfl
@[simp] theorem initSession_budget (s : State) : (initSession s).budget = s.budget := rfl
@[simp] theorem initSession_segBytes (s : State) : (initSession s).segBytes = s.segBytes := rfl
@[simp] theorem initSession_segCount (s : State) : (initSession s).segCount = s.segCount := rfl
@[simp] theorem initSession_slots (s : State) : (initSession s).slots = s.segBytes / 512#32 := rfl
@[simp] theorem initSession_capacity (s : State) : (initSession s).capacity = s.segCount * (s.segBytes / 512#32) := rfl
@[simp] theorem initSession_rot (s : State) : (initSession s).rot = .noSegment := rfl
@[simp] theorem initSession_segIndex (s : State) : (initSession s).segIndex = 0#32 := rfl
@[simp] theorem initSession_cursor (s : State) : (initSession s).cursor = 0#32 := rfl
@[simp] theorem initSession_sw (s : State) : (initSession s).sw = 0#32 := rfl
@[simp] theorem initSession_exitCode (s : State) : (initSession s).exitCode = .none := rfl
@[simp] theorem initSession_cancelReq (s : State) : (initSession s).cancelReq = false := rfl
@[simp] theorem initSession_cmdErr (s : State) : (initSession s).cmdErr = s.cmdErr := rfl
@[simp] theorem initSession_cfgErr (s : State) : (initSession s).cfgErr = s.cfgErr := rfl
@[simp] theorem initSession_irqEn (s : State) : (initSession s).irqEn = s.irqEn := rfl
@[simp] theorem initSession_irqPend (s : State) : (initSession s).irqPend = s.irqPend := rfl
@[simp] theorem initSession_segs (s : State) : (initSession s).segs = s.segs := rfl
@[simp] theorem initSession_param (s : State) : (initSession s).param = s.param := rfl
@[simp] theorem initSession_segBytesMax (s : State) : (initSession s).segBytesMax = s.segBytesMax := rfl
@[simp] theorem initSession_segCountMax (s : State) : (initSession s).segCountMax = s.segCountMax := rfl
@[simp] theorem initSession_startWaiting (s : State) : (initSession s).startWaiting = false := rfl
@[simp] theorem initSession_reply (s : State) : (initSession s).reply = s.reply := rfl
@[simp] theorem initSession_draws (s : State) : (initSession s).draws = s.draws + 1 := rfl
@[simp] theorem initSession_input (s : State) : (initSession s).input = s.input := rfl

/-! illegal_command() sets CMD_ERR and nothing else (45_host_commands.md R286). -/

@[simp] theorem illegalCommand_ph (s : State) : (illegalCommand s).ph = s.ph := rfl
@[simp] theorem illegalCommand_window (s : State) : (illegalCommand s).window = s.window := rfl
@[simp] theorem illegalCommand_frame (s : State) : (illegalCommand s).frame = s.frame := rfl
@[simp] theorem illegalCommand_fh (s : State) : (illegalCommand s).fh = s.fh := rfl
@[simp] theorem illegalCommand_pkAddr (s : State) : (illegalCommand s).pkAddr = s.pkAddr := rfl
@[simp] theorem illegalCommand_pkSample (s : State) : (illegalCommand s).pkSample = s.pkSample := rfl
@[simp] theorem illegalCommand_hdr0 (s : State) : (illegalCommand s).hdr0 = s.hdr0 := rfl
@[simp] theorem illegalCommand_hdr1 (s : State) : (illegalCommand s).hdr1 = s.hdr1 := rfl
@[simp] theorem illegalCommand_budget (s : State) : (illegalCommand s).budget = s.budget := rfl
@[simp] theorem illegalCommand_segBytes (s : State) : (illegalCommand s).segBytes = s.segBytes := rfl
@[simp] theorem illegalCommand_segCount (s : State) : (illegalCommand s).segCount = s.segCount := rfl
@[simp] theorem illegalCommand_slots (s : State) : (illegalCommand s).slots = s.slots := rfl
@[simp] theorem illegalCommand_capacity (s : State) : (illegalCommand s).capacity = s.capacity := rfl
@[simp] theorem illegalCommand_rot (s : State) : (illegalCommand s).rot = s.rot := rfl
@[simp] theorem illegalCommand_segIndex (s : State) : (illegalCommand s).segIndex = s.segIndex := rfl
@[simp] theorem illegalCommand_cursor (s : State) : (illegalCommand s).cursor = s.cursor := rfl
@[simp] theorem illegalCommand_sw (s : State) : (illegalCommand s).sw = s.sw := rfl
@[simp] theorem illegalCommand_exitCode (s : State) : (illegalCommand s).exitCode = s.exitCode := rfl
@[simp] theorem illegalCommand_cancelReq (s : State) : (illegalCommand s).cancelReq = s.cancelReq := rfl
@[simp] theorem illegalCommand_cmdErr (s : State) : (illegalCommand s).cmdErr = true := rfl
@[simp] theorem illegalCommand_cfgErr (s : State) : (illegalCommand s).cfgErr = s.cfgErr := rfl
@[simp] theorem illegalCommand_irqEn (s : State) : (illegalCommand s).irqEn = s.irqEn := rfl
@[simp] theorem illegalCommand_irqPend (s : State) : (illegalCommand s).irqPend = s.irqPend := rfl
@[simp] theorem illegalCommand_segs (s : State) : (illegalCommand s).segs = s.segs := rfl
@[simp] theorem illegalCommand_param (s : State) : (illegalCommand s).param = s.param := rfl
@[simp] theorem illegalCommand_segBytesMax (s : State) : (illegalCommand s).segBytesMax = s.segBytesMax := rfl
@[simp] theorem illegalCommand_segCountMax (s : State) : (illegalCommand s).segCountMax = s.segCountMax := rfl
@[simp] theorem illegalCommand_startWaiting (s : State) : (illegalCommand s).startWaiting = s.startWaiting := rfl
@[simp] theorem illegalCommand_reply (s : State) : (illegalCommand s).reply = s.reply := rfl
@[simp] theorem illegalCommand_draws (s : State) : (illegalCommand s).draws = s.draws := rfl
@[simp] theorem illegalCommand_input (s : State) : (illegalCommand s).input = s.input := rfl

/-! CLRERR clears the two sticky flags (45_host_commands.md R284). -/

@[simp] theorem clearErrors_ph (s : State) : (clearErrors s).ph = s.ph := rfl
@[simp] theorem clearErrors_window (s : State) : (clearErrors s).window = s.window := rfl
@[simp] theorem clearErrors_frame (s : State) : (clearErrors s).frame = s.frame := rfl
@[simp] theorem clearErrors_fh (s : State) : (clearErrors s).fh = s.fh := rfl
@[simp] theorem clearErrors_pkAddr (s : State) : (clearErrors s).pkAddr = s.pkAddr := rfl
@[simp] theorem clearErrors_pkSample (s : State) : (clearErrors s).pkSample = s.pkSample := rfl
@[simp] theorem clearErrors_hdr0 (s : State) : (clearErrors s).hdr0 = s.hdr0 := rfl
@[simp] theorem clearErrors_hdr1 (s : State) : (clearErrors s).hdr1 = s.hdr1 := rfl
@[simp] theorem clearErrors_budget (s : State) : (clearErrors s).budget = s.budget := rfl
@[simp] theorem clearErrors_segBytes (s : State) : (clearErrors s).segBytes = s.segBytes := rfl
@[simp] theorem clearErrors_segCount (s : State) : (clearErrors s).segCount = s.segCount := rfl
@[simp] theorem clearErrors_slots (s : State) : (clearErrors s).slots = s.slots := rfl
@[simp] theorem clearErrors_capacity (s : State) : (clearErrors s).capacity = s.capacity := rfl
@[simp] theorem clearErrors_rot (s : State) : (clearErrors s).rot = s.rot := rfl
@[simp] theorem clearErrors_segIndex (s : State) : (clearErrors s).segIndex = s.segIndex := rfl
@[simp] theorem clearErrors_cursor (s : State) : (clearErrors s).cursor = s.cursor := rfl
@[simp] theorem clearErrors_sw (s : State) : (clearErrors s).sw = s.sw := rfl
@[simp] theorem clearErrors_exitCode (s : State) : (clearErrors s).exitCode = s.exitCode := rfl
@[simp] theorem clearErrors_cancelReq (s : State) : (clearErrors s).cancelReq = s.cancelReq := rfl
@[simp] theorem clearErrors_cmdErr (s : State) : (clearErrors s).cmdErr = false := rfl
@[simp] theorem clearErrors_cfgErr (s : State) : (clearErrors s).cfgErr = false := rfl
@[simp] theorem clearErrors_irqEn (s : State) : (clearErrors s).irqEn = s.irqEn := rfl
@[simp] theorem clearErrors_irqPend (s : State) : (clearErrors s).irqPend = s.irqPend := rfl
@[simp] theorem clearErrors_segs (s : State) : (clearErrors s).segs = s.segs := rfl
@[simp] theorem clearErrors_param (s : State) : (clearErrors s).param = s.param := rfl
@[simp] theorem clearErrors_segBytesMax (s : State) : (clearErrors s).segBytesMax = s.segBytesMax := rfl
@[simp] theorem clearErrors_segCountMax (s : State) : (clearErrors s).segCountMax = s.segCountMax := rfl
@[simp] theorem clearErrors_startWaiting (s : State) : (clearErrors s).startWaiting = s.startWaiting := rfl
@[simp] theorem clearErrors_reply (s : State) : (clearErrors s).reply = s.reply := rfl
@[simp] theorem clearErrors_draws (s : State) : (clearErrors s).draws = s.draws := rfl
@[simp] theorem clearErrors_input (s : State) : (clearErrors s).input = s.input := rfl

/-! SOFTRESET, field by field (45_host_commands.md R285). -/

@[simp] theorem softReset_ph (s : State) : (softReset s).ph = .idle := rfl
@[simp] theorem softReset_window (s : State) : (softReset s).window = [] := rfl
@[simp] theorem softReset_frame (s : State) : (softReset s).frame = freeFrame s.draws := rfl
@[simp] theorem softReset_fh (s : State) : (softReset s).fh = false := rfl
@[simp] theorem softReset_pkAddr (s : State) : (softReset s).pkAddr = s.pkAddr := rfl
@[simp] theorem softReset_pkSample (s : State) : (softReset s).pkSample = s.pkSample := rfl
@[simp] theorem softReset_hdr0 (s : State) : (softReset s).hdr0 = s.hdr0 := rfl
@[simp] theorem softReset_hdr1 (s : State) : (softReset s).hdr1 = s.hdr1 := rfl
@[simp] theorem softReset_budget (s : State) : (softReset s).budget = s.budget := rfl
@[simp] theorem softReset_segBytes (s : State) : (softReset s).segBytes = s.segBytes := rfl
@[simp] theorem softReset_segCount (s : State) : (softReset s).segCount = s.segCount := rfl
@[simp] theorem softReset_slots (s : State) : (softReset s).slots = s.slots := rfl
@[simp] theorem softReset_capacity (s : State) : (softReset s).capacity = s.capacity := rfl
@[simp] theorem softReset_rot (s : State) : (softReset s).rot = .noSegment := rfl
@[simp] theorem softReset_segIndex (s : State) : (softReset s).segIndex = 0#32 := rfl
@[simp] theorem softReset_cursor (s : State) : (softReset s).cursor = 0#32 := rfl
@[simp] theorem softReset_sw (s : State) : (softReset s).sw = 0#32 := rfl
@[simp] theorem softReset_exitCode (s : State) : (softReset s).exitCode = .none := rfl
@[simp] theorem softReset_cancelReq (s : State) : (softReset s).cancelReq = false := rfl
@[simp] theorem softReset_cmdErr (s : State) : (softReset s).cmdErr = false := rfl
@[simp] theorem softReset_cfgErr (s : State) : (softReset s).cfgErr = false := rfl
@[simp] theorem softReset_irqEn (s : State) : (softReset s).irqEn = s.irqEn := rfl
@[simp] theorem softReset_irqPend (s : State) : (softReset s).irqPend = false := rfl
@[simp] theorem softReset_segs (s : State) : (softReset s).segs = s.segs.map fun g => { g with active := false } := rfl
@[simp] theorem softReset_param (s : State) : (softReset s).param = s.param := rfl
@[simp] theorem softReset_segBytesMax (s : State) : (softReset s).segBytesMax = s.segBytesMax := rfl
@[simp] theorem softReset_segCountMax (s : State) : (softReset s).segCountMax = s.segCountMax := rfl
@[simp] theorem softReset_startWaiting (s : State) : (softReset s).startWaiting = false := rfl
@[simp] theorem softReset_reply (s : State) : (softReset s).reply = s.reply := rfl
@[simp] theorem softReset_draws (s : State) : (softReset s).draws = s.draws + 1 := rfl
@[simp] theorem softReset_input (s : State) : (softReset s).input = s.input := rfl

/-! Hardware reset, field by field (70_reset_and_hazards.md R340). -/

@[simp] theorem hardReset_ph (s : State) : (hardReset s).ph = .idle := rfl
@[simp] theorem hardReset_window (s : State) : (hardReset s).window = [] := rfl
@[simp] theorem hardReset_frame (s : State) : (hardReset s).frame = freeFrame s.draws := rfl
@[simp] theorem hardReset_fh (s : State) : (hardReset s).fh = false := rfl
@[simp] theorem hardReset_pkAddr (s : State) : (hardReset s).pkAddr = freeAddress (s.draws + 1) := rfl
@[simp] theorem hardReset_pkSample (s : State) : (hardReset s).pkSample = freeSamples (s.draws + 1) := rfl
@[simp] theorem hardReset_hdr0 (s : State) : (hardReset s).hdr0 = 0x12E18000#32 := rfl
@[simp] theorem hardReset_hdr1 (s : State) : (hardReset s).hdr1 = 0x5634#16 := rfl
@[simp] theorem hardReset_budget (s : State) : (hardReset s).budget = 0x00100000#32 := rfl
@[simp] theorem hardReset_segBytes (s : State) : (hardReset s).segBytes = 0x01000000#32 := rfl
@[simp] theorem hardReset_segCount (s : State) : (hardReset s).segCount = 32#32 := rfl
@[simp] theorem hardReset_slots (s : State) : (hardReset s).slots = Config.freeSlots s.draws := rfl
@[simp] theorem hardReset_capacity (s : State) : (hardReset s).capacity = Config.freeCapacity s.draws := rfl
@[simp] theorem hardReset_rot (s : State) : (hardReset s).rot = .noSegment := rfl
@[simp] theorem hardReset_segIndex (s : State) : (hardReset s).segIndex = 0#32 := rfl
@[simp] theorem hardReset_cursor (s : State) : (hardReset s).cursor = 0#32 := rfl
@[simp] theorem hardReset_sw (s : State) : (hardReset s).sw = 0#32 := rfl
@[simp] theorem hardReset_exitCode (s : State) : (hardReset s).exitCode = .none := rfl
@[simp] theorem hardReset_cancelReq (s : State) : (hardReset s).cancelReq = false := rfl
@[simp] theorem hardReset_cmdErr (s : State) : (hardReset s).cmdErr = false := rfl
@[simp] theorem hardReset_cfgErr (s : State) : (hardReset s).cfgErr = false := rfl
@[simp] theorem hardReset_irqEn (s : State) : (hardReset s).irqEn = false := rfl
@[simp] theorem hardReset_irqPend (s : State) : (hardReset s).irqPend = false := rfl
@[simp] theorem hardReset_segs (s : State) : (hardReset s).segs = s.segs.map fun g => { g with present := false, active := false } := rfl
@[simp] theorem hardReset_param (s : State) : (hardReset s).param = s.param := rfl
@[simp] theorem hardReset_segBytesMax (s : State) : (hardReset s).segBytesMax = s.segBytesMax := rfl
@[simp] theorem hardReset_segCountMax (s : State) : (hardReset s).segCountMax = s.segCountMax := rfl
@[simp] theorem hardReset_startWaiting (s : State) : (hardReset s).startWaiting = false := rfl
@[simp] theorem hardReset_reply (s : State) : (hardReset s).reply = s.reply := rfl
@[simp] theorem hardReset_draws (s : State) : (hardReset s).draws = s.draws + 1 + 1 := rfl
@[simp] theorem hardReset_input (s : State) : (hardReset s).input = s.input := rfl

/-! A write to IRQ changes EN and PEND only (45_host_commands.md R287). -/

@[simp] theorem writeIrq_ph (d : Word) (s : State) : (writeIrq d s).ph = s.ph := rfl
@[simp] theorem writeIrq_window (d : Word) (s : State) : (writeIrq d s).window = s.window := rfl
@[simp] theorem writeIrq_frame (d : Word) (s : State) : (writeIrq d s).frame = s.frame := rfl
@[simp] theorem writeIrq_fh (d : Word) (s : State) : (writeIrq d s).fh = s.fh := rfl
@[simp] theorem writeIrq_pkAddr (d : Word) (s : State) : (writeIrq d s).pkAddr = s.pkAddr := rfl
@[simp] theorem writeIrq_pkSample (d : Word) (s : State) : (writeIrq d s).pkSample = s.pkSample := rfl
@[simp] theorem writeIrq_hdr0 (d : Word) (s : State) : (writeIrq d s).hdr0 = s.hdr0 := rfl
@[simp] theorem writeIrq_hdr1 (d : Word) (s : State) : (writeIrq d s).hdr1 = s.hdr1 := rfl
@[simp] theorem writeIrq_budget (d : Word) (s : State) : (writeIrq d s).budget = s.budget := rfl
@[simp] theorem writeIrq_segBytes (d : Word) (s : State) : (writeIrq d s).segBytes = s.segBytes := rfl
@[simp] theorem writeIrq_segCount (d : Word) (s : State) : (writeIrq d s).segCount = s.segCount := rfl
@[simp] theorem writeIrq_slots (d : Word) (s : State) : (writeIrq d s).slots = s.slots := rfl
@[simp] theorem writeIrq_capacity (d : Word) (s : State) : (writeIrq d s).capacity = s.capacity := rfl
@[simp] theorem writeIrq_rot (d : Word) (s : State) : (writeIrq d s).rot = s.rot := rfl
@[simp] theorem writeIrq_segIndex (d : Word) (s : State) : (writeIrq d s).segIndex = s.segIndex := rfl
@[simp] theorem writeIrq_cursor (d : Word) (s : State) : (writeIrq d s).cursor = s.cursor := rfl
@[simp] theorem writeIrq_sw (d : Word) (s : State) : (writeIrq d s).sw = s.sw := rfl
@[simp] theorem writeIrq_exitCode (d : Word) (s : State) : (writeIrq d s).exitCode = s.exitCode := rfl
@[simp] theorem writeIrq_cancelReq (d : Word) (s : State) : (writeIrq d s).cancelReq = s.cancelReq := rfl
@[simp] theorem writeIrq_cmdErr (d : Word) (s : State) : (writeIrq d s).cmdErr = s.cmdErr := rfl
@[simp] theorem writeIrq_cfgErr (d : Word) (s : State) : (writeIrq d s).cfgErr = s.cfgErr := rfl
@[simp] theorem writeIrq_irqEn (d : Word) (s : State) : (writeIrq d s).irqEn = d.getLsbD 0 := rfl
@[simp] theorem writeIrq_irqPend (d : Word) (s : State) : (writeIrq d s).irqPend = (if d.getLsbD 1 then false else s.irqPend) := rfl
@[simp] theorem writeIrq_segs (d : Word) (s : State) : (writeIrq d s).segs = s.segs := rfl
@[simp] theorem writeIrq_param (d : Word) (s : State) : (writeIrq d s).param = s.param := rfl
@[simp] theorem writeIrq_segBytesMax (d : Word) (s : State) : (writeIrq d s).segBytesMax = s.segBytesMax := rfl
@[simp] theorem writeIrq_segCountMax (d : Word) (s : State) : (writeIrq d s).segCountMax = s.segCountMax := rfl
@[simp] theorem writeIrq_startWaiting (d : Word) (s : State) : (writeIrq d s).startWaiting = s.startWaiting := rfl
@[simp] theorem writeIrq_reply (d : Word) (s : State) : (writeIrq d s).reply = s.reply := rfl
@[simp] theorem writeIrq_draws (d : Word) (s : State) : (writeIrq d s).draws = s.draws := rfl
@[simp] theorem writeIrq_input (d : Word) (s : State) : (writeIrq d s).input = s.input := rfl

/-! The state after reset, field by field (10_state.md R56). -/

@[simp] theorem reset_ph : State.reset.ph = .idle := rfl
@[simp] theorem reset_window : State.reset.window = [] := rfl
@[simp] theorem reset_fh : State.reset.fh = false := rfl
@[simp] theorem reset_hdr0 : State.reset.hdr0 = 0x12E18000#32 := rfl
@[simp] theorem reset_hdr1 : State.reset.hdr1 = 0x5634#16 := rfl
@[simp] theorem reset_budget : State.reset.budget = 0x00100000#32 := rfl
@[simp] theorem reset_segBytes : State.reset.segBytes = 0x01000000#32 := rfl
@[simp] theorem reset_segCount : State.reset.segCount = 32#32 := rfl
@[simp] theorem reset_slots : State.reset.slots = 0#32 := rfl
@[simp] theorem reset_capacity : State.reset.capacity = 0#32 := rfl
@[simp] theorem reset_rot : State.reset.rot = .noSegment := rfl
@[simp] theorem reset_segIndex : State.reset.segIndex = 0#32 := rfl
@[simp] theorem reset_cursor : State.reset.cursor = 0#32 := rfl
@[simp] theorem reset_sw : State.reset.sw = 0#32 := rfl
@[simp] theorem reset_exitCode : State.reset.exitCode = .none := rfl
@[simp] theorem reset_cancelReq : State.reset.cancelReq = false := rfl
@[simp] theorem reset_cmdErr : State.reset.cmdErr = false := rfl
@[simp] theorem reset_cfgErr : State.reset.cfgErr = false := rfl
@[simp] theorem reset_irqEn : State.reset.irqEn = false := rfl
@[simp] theorem reset_irqPend : State.reset.irqPend = false := rfl
@[simp] theorem reset_param : State.reset.param = 0x02060800#32 := rfl
@[simp] theorem reset_segBytesMax : State.reset.segBytesMax = 16777216 := rfl
@[simp] theorem reset_segCountMax : State.reset.segCountMax = 32 := rfl
@[simp] theorem reset_startWaiting : State.reset.startWaiting = false := rfl
@[simp] theorem reset_reply : State.reset.reply = .none := rfl
@[simp] theorem reset_draws : State.reset.draws = 0 := rfl
@[simp] theorem reset_input : State.reset.input = [] := rfl
@[simp] theorem reset_frame_length : State.reset.frame.length = 518 := List.length_replicate
@[simp] theorem reset_pkAddr_length : State.reset.pkAddr.length = 6 := List.length_replicate
@[simp] theorem reset_pkSample_length : State.reset.pkSample.length = 128 := List.length_replicate
@[simp] theorem reset_segs_length : State.reset.segs.length = 32 := List.length_replicate
@[simp] theorem reset_seg (i : Nat) : State.reset.seg i = Segment.absent := by
  show (List.replicate Config.resetSegCountMax Segment.absent).getD i Segment.absent = Segment.absent
  generalize Config.resetSegCountMax = n
  rw [List.getD_eq_getElem?_getD, List.getElem?_replicate]
  split <;> rfl

theorem reset_segs_absent {g : Segment} (h : g ∈ State.reset.segs) : g = Segment.absent :=
  List.eq_of_mem_replicate h

/-! Values computed from fields that an update does not touch. -/

theorem hdr_congr {s t : State} (h0 : t.hdr0 = s.hdr0) (h1 : t.hdr1 = s.hdr1) : t.hdr = s.hdr := by
  simp [State.hdr, h0, h1]

theorem keep_congr {s t : State} (h : t.param = s.param) : t.keep = s.keep := by simp [State.keep, h]

theorem readMax_congr {s t : State} (h : t.param = s.param) : t.readMax = s.readMax := by simp [State.readMax, h]

theorem wcap_congr {s t : State} (h : t.param = s.param) : t.wcap = s.wcap := by
  simp [State.wcap, keep_congr h, readMax_congr h]

@[simp] theorem freeFrame_length (d : Nat) : (freeFrame d).length = Config.frameLen := by
  unfold freeFrame; exact (List.length_map _).trans List.length_range
@[simp] theorem freeAddress_length (d : Nat) : (freeAddress d).length = Config.headerLen := by
  unfold freeAddress; exact (List.length_map _).trans List.length_range
@[simp] theorem freeSamples_length (d : Nat) : (freeSamples d).length = Config.samplesPerRow := by
  unfold freeSamples; exact (List.length_map _).trans List.length_range

@[simp] theorem hdr_length (s : State) : s.hdr.length = Config.headerLen := rfl

end Sys2Proof.Machine
end

