-- ==== Sys2Proof/Laws/Ops.lean ====
section
/-! SUPPORT. For each shared operation, one lemma that says everything it can do; later proofs cite it and do not unfold the
operation. -/

namespace Sys2Proof.Machine

/-! ### The segment store -/

theorem seg_congr {s t : State} (h : t.segs = s.segs) (i : Nat) : t.seg i = s.seg i := by simp [State.seg, h]

theorem seg_setSeg (i j : Nat) (g : Segment) (s : State) :
    (setSeg i g s).seg j = if j = i ∧ i < s.segs.length then g else s.seg j := by
  simp only [State.seg, setSeg, List.getD_eq_getElem?_getD, List.getElem?_set]
  by_cases h : i = j
  · subst h
    by_cases h' : i < s.segs.length
    · simp [h']
    · simp [h']
  · simp [h, Ne.symm h]

/-- StoreOpen replaces one entry. -/
theorem seg_storeOpen (i j : Nat) (s : State) :
    (storeOpen i s).seg j =
      if j = i ∧ i < s.segs.length then
        { present := true, active := true, len := s.segBytes, bytes := (s.seg i).bytes.zeroFill s.segBytes.toNat }
      else s.seg j := seg_setSeg ..

/-- StoreWrite changes the bytes of one entry. -/
theorem seg_storeWrite (i j off : Nat) (bs : List Byte) (s : State) :
    (storeWrite i off bs s).seg j =
      if j = i ∧ i < s.segs.length then { s.seg i with bytes := (s.seg i).bytes.write off bs } else s.seg j :=
  seg_setSeg ..

/-- StoreRelease changes one entry's active flag. -/
theorem seg_storeRelease (i j : Nat) (s : State) :
    (storeRelease i s).seg j = if j = i ∧ i < s.segs.length then { s.seg i with active := false } else s.seg j :=
  seg_setSeg ..

/-- The release on the fatal path and at SOFTRESET clears every active flag and nothing else. -/
theorem seg_releaseActive (s : State) (i : Nat) :
    (releaseActive s).seg i = { s.seg i with active := false } := by
  simp only [State.seg, releaseActive, List.getD_eq_getElem?_getD, List.getElem?_map]
  cases h : s.segs[i]? <;> simp [Segment.absent]

@[simp] theorem segs_length_setSeg (i : Nat) (g : Segment) (s : State) :
    (setSeg i g s).segs.length = s.segs.length := by simp
@[simp] theorem segs_length_storeOpen (i : Nat) (s : State) :
    (storeOpen i s).segs.length = s.segs.length := segs_length_setSeg ..
@[simp] theorem segs_length_storeWrite (i off : Nat) (bs : List Byte) (s : State) :
    (storeWrite i off bs s).segs.length = s.segs.length := segs_length_setSeg ..
@[simp] theorem segs_length_storeRelease (i : Nat) (s : State) :
    (storeRelease i s).segs.length = s.segs.length := segs_length_setSeg ..
@[simp] theorem segs_length_releaseActive (s : State) :
    (releaseActive s).segs.length = s.segs.length := by simp

/-- An absent or released entry reads what its list reads. -/
theorem readStore_congr {s t : State} {i : Nat} (h : (t.seg i).bytes = (s.seg i).bytes) (off : Nat) :
    readStore t i off = readStore s i off := by simp [readStore, h]

/-! ### The rotator -/

@[simp] theorem openSegment_ok (i : Nat) (k : State → State) (s : State) :
    openSegment i .ok k s = k { storeOpen i s with cursor := 0#32, rot := .segmentOpen } := rfl

@[simp] theorem openSegment_fail (i : Nat) (k : State → State) (s : State) :
    openSegment i .fail k s = fatal .storageAllocFailure (setSeg i { s.seg i with present := false } s) := rfl

/-- Append with an open segment: the slot is written, the cursor advances, and the last slot fills the segment. -/
theorem append_of_open {s : State} (h : s.rot = .segmentOpen) :
    append s =
      { storeWrite s.segIndex.toNat (slotBase s.cursor) (bytesOfSamples s.pkSample) s with
        cursor := s.cursor + 1#32,
        rot := if s.cursor + 1#32 = s.slots then .segmentFull else .segmentOpen } := by
  simp [append, h]

/-- Append without an open segment is rejected (43_storage_rotator.md R223). -/
theorem append_rejected {s : State} (h : s.rot ≠ .segmentOpen) : append s = s := by simp [append, h]

/-- Everything ROTATE can answer. -/
theorem rotate_cases (a : Option StorageAnswer) (s : State) :
    (s.rotationOpens = false ∧ rotate a s = .next { releaseFull s with rot := .terminated, ph := .check }) ∨
    (s.rotationOpens = true ∧ a = none ∧ rotate a s = .next s) ∨
    (s.rotationOpens = true ∧ (s.segIndex + 1#32).toNat < s.segCountMax ∧ ∃ b, a = some b ∧
      rotate a s = .next (openSegment (s.segIndex + 1#32).toNat b toCheck (releaseFull s))) ∨
    (s.rotationOpens = true ∧ s.segCountMax ≤ (s.segIndex + 1#32).toNat ∧ rotate a s = .fault .segmentOutsideStore) := by
  cases h : s.rotationOpens
  · exact .inl ⟨rfl, by simp [rotate, h]⟩
  · cases a with
    | none => exact .inr (.inl ⟨rfl, rfl, by simp [rotate, h]⟩)
    | some b =>
      rcases Nat.lt_or_ge (s.segIndex + 1#32).toNat s.segCountMax with h' | h'
      · exact .inr (.inr (.inl ⟨rfl, h', b, rfl, by simp only [rotate, h, h', if_true]⟩))
      · exact .inr (.inr (.inr ⟨rfl, h', by simp only [rotate, h, Nat.not_lt.mpr h', if_true, if_false]⟩))

/-! ### The synchronizer -/

/-- The three cases of a SYNC step (41_frame_sync.md R172): miss, wait, emission. -/
theorem syncStep_cases (data : List Byte) (s : State) :
    (firstMatch s.hdr (s.window ++ data) = none ∧
      syncStep data s = { s with window := tailBytes s.keep (s.window ++ data) }) ∨
    (∃ o, firstMatch s.hdr (s.window ++ data) = some o ∧ (s.window ++ data).length - o < Config.frameLen ∧
      syncStep data s = { s with window := s.window ++ data }) ∨
    (∃ o, firstMatch s.hdr (s.window ++ data) = some o ∧ Config.frameLen ≤ (s.window ++ data).length - o ∧
      syncStep data s =
        { s with frame := frameAt (s.window ++ data) o, window := tailBytes s.keep (s.window ++ data),
                 fh := true, ph := .deliver }) := by
  cases h : firstMatch s.hdr (s.window ++ data) with
  | none => exact .inl ⟨rfl, by simp only [syncStep, h]⟩
  | some o =>
    rcases Nat.lt_or_ge ((s.window ++ data).length - o) Config.frameLen with h' | h'
    · exact .inr (.inl ⟨o, rfl, h', by simp only [syncStep, h, h', if_true]⟩)
    · exact .inr (.inr ⟨o, rfl, h', by simp only [syncStep, h, Nat.not_lt.mpr h', if_false]⟩)

theorem tailBytes_length (k : Nat) (w : List Byte) : (tailBytes k w).length = min k w.length := by
  simp only [tailBytes, List.length_drop]; omega

/-! ### Commands -/

/-- START's check is the legality of SEG_BYTES and SEG_COUNT under the implementation's maxima (10_state.md R38, R39). -/
theorem configLegal_iff (s : State) :
    s.configLegal = true ↔
      512 ≤ s.segBytes.toNat ∧ s.segBytes.toNat ≤ s.segBytesMax ∧ s.segBytes.toNat % 512 = 0 ∧
        1 ≤ s.segCount.toNat ∧ s.segCount.toNat ≤ s.segCountMax := by
  simp [State.configLegal, and_assoc]

/-- Everything START can do (45_host_commands.md R282). -/
theorem startCommand_cases (a : Option StorageAnswer) (s : State) :
    (s.running = true ∧ startCommand a s = illegalCommand s) ∨
    (s.running = false ∧ s.configLegal = false ∧ startCommand a s = { s with cfgErr := true, startWaiting := false }) ∨
    (s.running = false ∧ s.configLegal = true ∧ a = none ∧ startCommand a s = { s with startWaiting := true }) ∨
    (s.running = false ∧ s.configLegal = true ∧ ∃ b, a = some b ∧ startCommand a s = startSession b s) := by
  cases h : s.running <;> cases h' : s.configLegal <;> cases a <;> simp [startCommand, h, h']

/-- Everything a write to CMD can do (45_host_commands.md R280). -/
theorem commandWord_cases (d : Word) (a : Option StorageAnswer) (s : State) :
    commandWord d a s = illegalCommand s ∨ commandWord d a s = s ∨ commandWord d a s = startCommand a s ∨
    commandWord d a s = cancelCommand s ∨ commandWord d a s = clearErrors s ∨ commandWord d a s = softReset s := by
  unfold commandWord
  split
  · exact .inl rfl
  · split <;> simp

/-- Everything CANCEL can do (45_host_commands.md R283). -/
theorem cancelCommand_cases (s : State) :
    (s.running = true ∧ cancelCommand s = { s with cancelReq := true }) ∨
    (s.running = false ∧ cancelCommand s = illegalCommand s) := by
  cases h : s.running <;> simp [cancelCommand, h]

/-- Everything a write to a configuration register can do (10_state.md R58). -/
theorem writeConfig_cases (f : State → State) (s : State) :
    (s.running = true ∧ writeConfig f s = illegalCommand s) ∨ (s.running = false ∧ writeConfig f s = f s) := by
  cases h : s.running <;> simp [writeConfig, h]

/-- Everything a storage answer can do (43_storage_rotator.md R220). -/
theorem storageAnswer_cases (a : StorageAnswer) (s : State) :
    (s.startWaiting = true ∧ storageAnswer a s = .next (startCommand (some a) s)) ∨
    (s.startWaiting = false ∧ s.ph = .rotate ∧ s.rotationOpens = true ∧ storageAnswer a s = rotate (some a) s) ∨
    (storageAnswer a s = .refused .noOpenRequested) := by
  cases h : s.startWaiting
  · by_cases h' : s.ph = .rotate ∧ s.rotationOpens = true
    · exact .inr (.inl ⟨rfl, h'.1, h'.2, by simp [storageAnswer, h, h']⟩)
    · exact .inr (.inr (by simp only [storageAnswer, h, h', if_false]; simp))
  · exact .inl ⟨rfl, by simp [storageAnswer, h]⟩

/-! ### The step -/

/-- Everything a step that answers a next state did: it ran the next transaction, or the controller took its turn. -/
theorem step_cases {s t : State} (h : step s = .next t) :
    (∃ i rest, fetch s = some (.ok i rest) ∧ exec i { s with input := rest } = .next t) ∨
    (fetch s = none ∧ controllerStep s = .next t) := by
  unfold step at h
  split at h
  · exact .inr ⟨‹_›, h⟩
  · exact .inl ⟨_, _, ‹_›, h⟩
  · cases h

/-- The controller's turn is one of its internal steps, or a wait. -/
theorem controllerStep_cases (s : State) :
    controllerStep s = exec .stepCheck s ∨ controllerStep s = exec .stepDeliver s ∨
    controllerStep s = exec (.stepRotate none) s ∨ controllerStep s = .next s := by
  unfold controllerStep
  cases s.ph <;> simp [exec]

end Sys2Proof.Machine
end

