-- ==== Sys2Proof/Laws/Effects.lean ====
section
/-! SUPPORT. Everything a transaction can do to the state, said once: the cases of `Effect` are the only next states of any
instruction (`exec_effect`) and of any step (`step_effect`). An invariant is one case analysis over `Effect`. -/

namespace Sys2Proof.Machine

/-- The next states a transaction can answer, with the condition each happens under. -/
inductive Effect (s : State) : State → Prop where
  | same : Effect s s
  | illegal : Effect s (illegalCommand s)
  | startAsked (hr : s.running = false) (hc : s.configLegal = true) : Effect s { s with startWaiting := true }
  | configRefused (hr : s.running = false) : Effect s { s with cfgErr := true, startWaiting := false }
  | started (b : StorageAnswer) (hr : s.running = false) (hc : s.configLegal = true) : Effect s (startSession b s)
  | cancelled (hr : s.running = true) : Effect s { s with cancelReq := true }
  | cleared : Effect s (clearErrors s)
  | softReset : Effect s (softReset s)
  | hardReset : Effect s (hardReset s)
  | synced (data : List Byte) (hp : s.ph = .sync) (hn : data.length ≤ s.readMax) : Effect s (syncStep data s)
  | linkFailed (hp : s.ph = .sync) : Effect s (fatal .linkFailure s)
  | terminated (hp : s.ph = .rotate) (ho : s.rotationOpens = false) :
      Effect s { releaseFull s with rot := .terminated, ph := .check }
  | rotated (b : StorageAnswer) (hp : s.ph = .rotate) (ho : s.rotationOpens = true)
      (hi : (s.segIndex + 1#32).toNat < s.segCountMax) :
      Effect s (openSegment (s.segIndex + 1#32).toNat b toCheck (releaseFull s))
  | hdr0Written (d : Word) (hr : s.running = false) : Effect s { s with hdr0 := d }
  | hdr1Written (d : BitVec 16) (hr : s.running = false) : Effect s { s with hdr1 := d }
  | budgetWritten (d : Word) (hr : s.running = false) : Effect s { s with budget := d }
  | segBytesWritten (d : Word) (hr : s.running = false) : Effect s { s with segBytes := d }
  | segCountWritten (d : Word) (hr : s.running = false) : Effect s { s with segCount := d }
  | irqWritten (d : Word) : Effect s (writeIrq d s)
  | replied (r : HostReply) : Effect s { s with reply := r }
  | budgetReached (hp : s.ph = .check) (hb : ¬ s.sw < s.budget) : Effect s (endSession .budgetReached s)
  | capacityExhausted (hp : s.ph = .check) (hb : s.sw < s.budget) (ht : s.rot = .terminated) :
      Effect s (endSession .capacityExhausted s)
  | cancelTaken (hp : s.ph = .check) (hb : s.sw < s.budget) (ht : s.rot ≠ .terminated) (hc : s.cancelReq = true) :
      Effect s (endSession .cancelled s)
  | linkRead (hp : s.ph = .check) (hb : s.sw < s.budget) (ht : s.rot ≠ .terminated) (hc : s.cancelReq = false) :
      Effect s { s with ph := .sync }
  | delivered (hp : s.ph = .deliver) (hm : s.rot = .segmentOpen → s.slotMapped = true) : Effect s (deliver s)

theorem startCommand_effect (a : Option StorageAnswer) (s : State) : Effect s (startCommand a s) := by
  rcases startCommand_cases a s with ⟨_, h⟩ | ⟨hr, _, h⟩ | ⟨hr, hc, _, h⟩ | ⟨hr, hc, b, _, h⟩ <;> rw [h]
  · exact .illegal
  · exact .configRefused hr
  · exact .startAsked hr hc
  · exact .started b hr hc

theorem cancelCommand_effect (s : State) : Effect s (cancelCommand s) := by
  rcases cancelCommand_cases s with ⟨hr, h⟩ | ⟨_, h⟩ <;> rw [h]
  · exact .cancelled hr
  · exact .illegal

theorem commandWord_effect (d : Word) (a : Option StorageAnswer) (s : State) : Effect s (commandWord d a s) := by
  rcases commandWord_cases d a s with h | h | h | h | h | h <;> rw [h]
  · exact .illegal
  · exact .same
  · exact startCommand_effect a s
  · exact cancelCommand_effect s
  · exact .cleared
  · exact .softReset

theorem rotate_effect {a : Option StorageAnswer} {s t : State} (hp : s.ph = .rotate) (h : rotate a s = .next t) :
    Effect s t := by
  rcases rotate_cases a s with ⟨ho, h'⟩ | ⟨_, _, h'⟩ | ⟨ho, hi, b, _, h'⟩ | ⟨_, _, h'⟩ <;> rw [h'] at h <;> cases h
  · exact .terminated hp ho
  · exact .same
  · exact .rotated b hp ho hi

theorem storageAnswer_effect {a : StorageAnswer} {s t : State} (h : storageAnswer a s = .next t) : Effect s t := by
  rcases storageAnswer_cases a s with ⟨_, h'⟩ | ⟨_, hp, _, h'⟩ | h' <;> rw [h'] at h
  · cases h; exact startCommand_effect _ s
  · exact rotate_effect hp h
  · cases h

theorem check_effect {s t : State} (h : execStepCheck s = .next t) : Effect s t := by
  unfold execStepCheck at h
  split at h
  · rename_i hp
    injection h with h
    split at h
    · exact h ▸ .budgetReached hp ‹_›
    · rename_i hb
      split at h
      · exact h ▸ .capacityExhausted hp (Decidable.not_not.mp hb) ‹_›
      · split at h
        · exact h ▸ .cancelTaken hp (Decidable.not_not.mp hb) ‹_› ‹_›
        · exact h ▸ .linkRead hp (Decidable.not_not.mp hb) ‹_› (by simp_all)
  · cases h

theorem deliver_effect {s t : State} (h : execStepDeliver s = .next t) : Effect s t := by
  unfold execStepDeliver at h
  split at h
  · rename_i hp
    split at h
    · cases h
    · rename_i hm
      injection h with h
      exact h ▸ .delivered hp fun ho => by simpa [ho] using hm
  · cases h

theorem writeConfig_effect {f : State → State} {s : State} (h : s.running = false → Effect s (f s)) :
    Effect s (writeConfig f s) := by
  rcases writeConfig_cases f s with ⟨_, h'⟩ | ⟨hr, h'⟩ <;> rw [h']
  · exact .illegal
  · exact h hr

/-- Every next state of every instruction is one of the cases of `Effect`. -/
theorem exec_effect {i : Instr} {s t : State} (h : exec i s = .next t) : Effect s t := by
  cases i with
  | cmdNop => cases h; exact .same
  | cmdStart a => cases h; exact startCommand_effect a s
  | cmdCancel => cases h; exact cancelCommand_effect s
  | cmdClrerr => cases h; exact .cleared
  | cmdSoftreset => cases h; exact .softReset
  | rxData data =>
    simp only [exec, execRxData] at h
    split at h
    · split at h
      · cases h; exact .synced data ‹_› ‹_›
      · cases h
    · cases h
  | rxFail =>
    simp only [exec, execRxFail] at h
    split at h
    · cases h; exact .linkFailed ‹_›
    · cases h
  | saOpenOk => exact storageAnswer_effect h
  | saOpenFail => exact storageAnswer_effect h
  | wrCmd d a => cases h; exact commandWord_effect d a s
  | wrHdr0 d => cases h; exact writeConfig_effect fun hr => .hdr0Written d hr
  | wrHdr1 d => cases h; exact writeConfig_effect fun hr => .hdr1Written _ hr
  | wrBudget d => cases h; exact writeConfig_effect fun hr => .budgetWritten d hr
  | wrSegBytes d => cases h; exact writeConfig_effect fun hr => .segBytesWritten d hr
  | wrSegCount d => cases h; exact writeConfig_effect fun hr => .segCountWritten d hr
  | wrIrq d => cases h; exact .irqWritten d
  | wrReadonlyOrReserved n d => cases h; exact .same
  | rd n => cases h; exact .replied _
  | read seg off n =>
    simp only [exec, execRead] at h
    split at h
    · cases h
    · split at h
      · cases h
      · split at h
        · cases h
        · cases h; exact .replied _
  | stepCheck => exact check_effect h
  | stepDeliver => exact deliver_effect h
  | stepRotate a =>
    simp only [exec, execStepRotate] at h
    split at h
    · exact rotate_effect ‹_› h
    · cases h
  | stepReset => cases h; exact .hardReset

/-- Every next state of a step is one of the cases of `Effect`, from the state with the transaction taken off. -/
theorem step_effect {s t : State} (h : step s = .next t) : ∃ rest, Effect { s with input := rest } t := by
  rcases step_cases h with ⟨i, rest, _, he⟩ | ⟨_, hc⟩
  · exact ⟨rest, exec_effect he⟩
  · refine ⟨s.input, ?_⟩
    rcases controllerStep_cases s with h' | h' | h' | h' <;> rw [h'] at hc
    · exact exec_effect hc
    · exact exec_effect hc
    · exact exec_effect hc
    · cases hc; exact .same

end Sys2Proof.Machine
end

