-- ==== Sys2Proof/Laws/Fields.lean ====
section
/-! SUPPORT. One lemma per field for the operations that choose between updates: the fields that no choice changes, and those
that every choice sets alike. -/

namespace Sys2Proof.Machine

/-! APPEND writes the store, the cursor and the rotator state only (43_storage_rotator.md R221). -/

@[simp] theorem append_ph (s : State) : (append s).ph = s.ph := by
  unfold append; split <;> rfl
@[simp] theorem append_window (s : State) : (append s).window = s.window := by
  unfold append; split <;> rfl
@[simp] theorem append_frame (s : State) : (append s).frame = s.frame := by
  unfold append; split <;> rfl
@[simp] theorem append_fh (s : State) : (append s).fh = s.fh := by
  unfold append; split <;> rfl
@[simp] theorem append_pkAddr (s : State) : (append s).pkAddr = s.pkAddr := by
  unfold append; split <;> rfl
@[simp] theorem append_pkSample (s : State) : (append s).pkSample = s.pkSample := by
  unfold append; split <;> rfl
@[simp] theorem append_hdr0 (s : State) : (append s).hdr0 = s.hdr0 := by
  unfold append; split <;> rfl
@[simp] theorem append_hdr1 (s : State) : (append s).hdr1 = s.hdr1 := by
  unfold append; split <;> rfl
@[simp] theorem append_budget (s : State) : (append s).budget = s.budget := by
  unfold append; split <;> rfl
@[simp] theorem append_segBytes (s : State) : (append s).segBytes = s.segBytes := by
  unfold append; split <;> rfl
@[simp] theorem append_segCount (s : State) : (append s).segCount = s.segCount := by
  unfold append; split <;> rfl
@[simp] theorem append_slots (s : State) : (append s).slots = s.slots := by
  unfold append; split <;> rfl
@[simp] theorem append_capacity (s : State) : (append s).capacity = s.capacity := by
  unfold append; split <;> rfl
@[simp] theorem append_segIndex (s : State) : (append s).segIndex = s.segIndex := by
  unfold append; split <;> rfl
@[simp] theorem append_sw (s : State) : (append s).sw = s.sw := by
  unfold append; split <;> rfl
@[simp] theorem append_exitCode (s : State) : (append s).exitCode = s.exitCode := by
  unfold append; split <;> rfl
@[simp] theorem append_cancelReq (s : State) : (append s).cancelReq = s.cancelReq := by
  unfold append; split <;> rfl
@[simp] theorem append_cmdErr (s : State) : (append s).cmdErr = s.cmdErr := by
  unfold append; split <;> rfl
@[simp] theorem append_cfgErr (s : State) : (append s).cfgErr = s.cfgErr := by
  unfold append; split <;> rfl
@[simp] theorem append_irqEn (s : State) : (append s).irqEn = s.irqEn := by
  unfold append; split <;> rfl
@[simp] theorem append_irqPend (s : State) : (append s).irqPend = s.irqPend := by
  unfold append; split <;> rfl
@[simp] theorem append_param (s : State) : (append s).param = s.param := by
  unfold append; split <;> rfl
@[simp] theorem append_segBytesMax (s : State) : (append s).segBytesMax = s.segBytesMax := by
  unfold append; split <;> rfl
@[simp] theorem append_segCountMax (s : State) : (append s).segCountMax = s.segCountMax := by
  unfold append; split <;> rfl
@[simp] theorem append_startWaiting (s : State) : (append s).startWaiting = s.startWaiting := by
  unfold append; split <;> rfl
@[simp] theorem append_reply (s : State) : (append s).reply = s.reply := by
  unfold append; split <;> rfl
@[simp] theorem append_draws (s : State) : (append s).draws = s.draws := by
  unfold append; split <;> rfl
@[simp] theorem append_input (s : State) : (append s).input = s.input := by
  unfold append; split <;> rfl

/-! DELIVER, field by field (44_acquisition_loop.md R252). -/

@[simp] theorem deliver_ph (s : State) : (deliver s).ph = if (append (decodeFrame s)).rot = .segmentFull then .rotate else .check := by simp [deliver]
@[simp] theorem deliver_window (s : State) : (deliver s).window = s.window := by simp [deliver]
@[simp] theorem deliver_frame (s : State) : (deliver s).frame = freeFrame s.draws := by simp [deliver]
@[simp] theorem deliver_fh (s : State) : (deliver s).fh = false := by simp [deliver]
@[simp] theorem deliver_pkAddr (s : State) : (deliver s).pkAddr = freeAddress (s.draws + 1) := by simp [deliver]
@[simp] theorem deliver_pkSample (s : State) : (deliver s).pkSample = freeSamples (s.draws + 1) := by simp [deliver]
@[simp] theorem deliver_hdr0 (s : State) : (deliver s).hdr0 = s.hdr0 := by simp [deliver]
@[simp] theorem deliver_hdr1 (s : State) : (deliver s).hdr1 = s.hdr1 := by simp [deliver]
@[simp] theorem deliver_budget (s : State) : (deliver s).budget = s.budget := by simp [deliver]
@[simp] theorem deliver_segBytes (s : State) : (deliver s).segBytes = s.segBytes := by simp [deliver]
@[simp] theorem deliver_segCount (s : State) : (deliver s).segCount = s.segCount := by simp [deliver]
@[simp] theorem deliver_slots (s : State) : (deliver s).slots = s.slots := by simp [deliver]
@[simp] theorem deliver_capacity (s : State) : (deliver s).capacity = s.capacity := by simp [deliver]
@[simp] theorem deliver_rot (s : State) : (deliver s).rot = (append (decodeFrame s)).rot := by simp [deliver]
@[simp] theorem deliver_segIndex (s : State) : (deliver s).segIndex = s.segIndex := by simp [deliver]
@[simp] theorem deliver_cursor (s : State) : (deliver s).cursor = (append (decodeFrame s)).cursor := by simp [deliver]
@[simp] theorem deliver_sw (s : State) : (deliver s).sw = s.sw + 1#32 := by simp [deliver]
@[simp] theorem deliver_exitCode (s : State) : (deliver s).exitCode = s.exitCode := by simp [deliver]
@[simp] theorem deliver_cancelReq (s : State) : (deliver s).cancelReq = s.cancelReq := by simp [deliver]
@[simp] theorem deliver_cmdErr (s : State) : (deliver s).cmdErr = s.cmdErr := by simp [deliver]
@[simp] theorem deliver_cfgErr (s : State) : (deliver s).cfgErr = s.cfgErr := by simp [deliver]
@[simp] theorem deliver_irqEn (s : State) : (deliver s).irqEn = s.irqEn := by simp [deliver]
@[simp] theorem deliver_irqPend (s : State) : (deliver s).irqPend = s.irqPend := by simp [deliver]
@[simp] theorem deliver_segs (s : State) : (deliver s).segs = (append (decodeFrame s)).segs := by simp [deliver]
@[simp] theorem deliver_param (s : State) : (deliver s).param = s.param := by simp [deliver]
@[simp] theorem deliver_segBytesMax (s : State) : (deliver s).segBytesMax = s.segBytesMax := by simp [deliver]
@[simp] theorem deliver_segCountMax (s : State) : (deliver s).segCountMax = s.segCountMax := by simp [deliver]
@[simp] theorem deliver_startWaiting (s : State) : (deliver s).startWaiting = s.startWaiting := by simp [deliver]
@[simp] theorem deliver_reply (s : State) : (deliver s).reply = s.reply := by simp [deliver]
@[simp] theorem deliver_draws (s : State) : (deliver s).draws = s.draws + 1 + 1 := by simp [deliver]
@[simp] theorem deliver_input (s : State) : (deliver s).input = s.input := by simp [deliver]

/-! A normal session end, field by field (44_acquisition_loop.md R254). -/

@[simp] theorem endSession_ph (code : ExitCode) (s : State) : (endSession code s).ph = .done := by
  unfold endSession; split <;> rfl
@[simp] theorem endSession_window (code : ExitCode) (s : State) : (endSession code s).window = s.window := by
  unfold endSession; split <;> rfl
@[simp] theorem endSession_frame (code : ExitCode) (s : State) : (endSession code s).frame = s.frame := by
  unfold endSession; split <;> rfl
@[simp] theorem endSession_fh (code : ExitCode) (s : State) : (endSession code s).fh = s.fh := by
  unfold endSession; split <;> rfl
@[simp] theorem endSession_pkAddr (code : ExitCode) (s : State) : (endSession code s).pkAddr = s.pkAddr := by
  unfold endSession; split <;> rfl
@[simp] theorem endSession_pkSample (code : ExitCode) (s : State) : (endSession code s).pkSample = s.pkSample := by
  unfold endSession; split <;> rfl
@[simp] theorem endSession_hdr0 (code : ExitCode) (s : State) : (endSession code s).hdr0 = s.hdr0 := by
  unfold endSession; split <;> rfl
@[simp] theorem endSession_hdr1 (code : ExitCode) (s : State) : (endSession code s).hdr1 = s.hdr1 := by
  unfold endSession; split <;> rfl
@[simp] theorem endSession_budget (code : ExitCode) (s : State) : (endSession code s).budget = s.budget := by
  unfold endSession; split <;> rfl
@[simp] theorem endSession_segBytes (code : ExitCode) (s : State) : (endSession code s).segBytes = s.segBytes := by
  unfold endSession; split <;> rfl
@[simp] theorem endSession_segCount (code : ExitCode) (s : State) : (endSession code s).segCount = s.segCount := by
  unfold endSession; split <;> rfl
@[simp] theorem endSession_slots (code : ExitCode) (s : State) : (endSession code s).slots = s.slots := by
  unfold endSession; split <;> rfl
@[simp] theorem endSession_capacity (code : ExitCode) (s : State) : (endSession code s).capacity = s.capacity := by
  unfold endSession; split <;> rfl
@[simp] theorem endSession_segIndex (code : ExitCode) (s : State) : (endSession code s).segIndex = s.segIndex := by
  unfold endSession; split <;> rfl
@[simp] theorem endSession_cursor (code : ExitCode) (s : State) : (endSession code s).cursor = s.cursor := by
  unfold endSession; split <;> rfl
@[simp] theorem endSession_sw (code : ExitCode) (s : State) : (endSession code s).sw = s.sw := by
  unfold endSession; split <;> rfl
@[simp] theorem endSession_exitCode (code : ExitCode) (s : State) : (endSession code s).exitCode = code := by
  unfold endSession; split <;> rfl
@[simp] theorem endSession_cancelReq (code : ExitCode) (s : State) : (endSession code s).cancelReq = false := by
  unfold endSession; split <;> rfl
@[simp] theorem endSession_cmdErr (code : ExitCode) (s : State) : (endSession code s).cmdErr = s.cmdErr := by
  unfold endSession; split <;> rfl
@[simp] theorem endSession_cfgErr (code : ExitCode) (s : State) : (endSession code s).cfgErr = s.cfgErr := by
  unfold endSession; split <;> rfl
@[simp] theorem endSession_irqEn (code : ExitCode) (s : State) : (endSession code s).irqEn = s.irqEn := by
  unfold endSession; split <;> rfl
@[simp] theorem endSession_irqPend (code : ExitCode) (s : State) : (endSession code s).irqPend = true := by
  unfold endSession; split <;> rfl
@[simp] theorem endSession_param (code : ExitCode) (s : State) : (endSession code s).param = s.param := by
  unfold endSession; split <;> rfl
@[simp] theorem endSession_segBytesMax (code : ExitCode) (s : State) : (endSession code s).segBytesMax = s.segBytesMax := by
  unfold endSession; split <;> rfl
@[simp] theorem endSession_segCountMax (code : ExitCode) (s : State) : (endSession code s).segCountMax = s.segCountMax := by
  unfold endSession; split <;> rfl
@[simp] theorem endSession_startWaiting (code : ExitCode) (s : State) : (endSession code s).startWaiting = s.startWaiting := by
  unfold endSession; split <;> rfl
@[simp] theorem endSession_reply (code : ExitCode) (s : State) : (endSession code s).reply = s.reply := by
  unfold endSession; split <;> rfl
@[simp] theorem endSession_draws (code : ExitCode) (s : State) : (endSession code s).draws = s.draws := by
  unfold endSession; split <;> rfl
@[simp] theorem endSession_input (code : ExitCode) (s : State) : (endSession code s).input = s.input := by
  unfold endSession; split <;> rfl

/-! A SYNC step writes W, F, FH and ph only (41_frame_sync.md R172). -/

@[simp] theorem syncStep_pkAddr (data : List Byte) (s : State) : (syncStep data s).pkAddr = s.pkAddr := by
  unfold syncStep; split; rfl; split <;> rfl
@[simp] theorem syncStep_pkSample (data : List Byte) (s : State) : (syncStep data s).pkSample = s.pkSample := by
  unfold syncStep; split; rfl; split <;> rfl
@[simp] theorem syncStep_hdr0 (data : List Byte) (s : State) : (syncStep data s).hdr0 = s.hdr0 := by
  unfold syncStep; split; rfl; split <;> rfl
@[simp] theorem syncStep_hdr1 (data : List Byte) (s : State) : (syncStep data s).hdr1 = s.hdr1 := by
  unfold syncStep; split; rfl; split <;> rfl
@[simp] theorem syncStep_budget (data : List Byte) (s : State) : (syncStep data s).budget = s.budget := by
  unfold syncStep; split; rfl; split <;> rfl
@[simp] theorem syncStep_segBytes (data : List Byte) (s : State) : (syncStep data s).segBytes = s.segBytes := by
  unfold syncStep; split; rfl; split <;> rfl
@[simp] theorem syncStep_segCount (data : List Byte) (s : State) : (syncStep data s).segCount = s.segCount := by
  unfold syncStep; split; rfl; split <;> rfl
@[simp] theorem syncStep_slots (data : List Byte) (s : State) : (syncStep data s).slots = s.slots := by
  unfold syncStep; split; rfl; split <;> rfl
@[simp] theorem syncStep_capacity (data : List Byte) (s : State) : (syncStep data s).capacity = s.capacity := by
  unfold syncStep; split; rfl; split <;> rfl
@[simp] theorem syncStep_rot (data : List Byte) (s : State) : (syncStep data s).rot = s.rot := by
  unfold syncStep; split; rfl; split <;> rfl
@[simp] theorem syncStep_segIndex (data : List Byte) (s : State) : (syncStep data s).segIndex = s.segIndex := by
  unfold syncStep; split; rfl; split <;> rfl
@[simp] theorem syncStep_cursor (data : List Byte) (s : State) : (syncStep data s).cursor = s.cursor := by
  unfold syncStep; split; rfl; split <;> rfl
@[simp] theorem syncStep_sw (data : List Byte) (s : State) : (syncStep data s).sw = s.sw := by
  unfold syncStep; split; rfl; split <;> rfl
@[simp] theorem syncStep_exitCode (data : List Byte) (s : State) : (syncStep data s).exitCode = s.exitCode := by
  unfold syncStep; split; rfl; split <;> rfl
@[simp] theorem syncStep_cancelReq (data : List Byte) (s : State) : (syncStep data s).cancelReq = s.cancelReq := by
  unfold syncStep; split; rfl; split <;> rfl
@[simp] theorem syncStep_cmdErr (data : List Byte) (s : State) : (syncStep data s).cmdErr = s.cmdErr := by
  unfold syncStep; split; rfl; split <;> rfl
@[simp] theorem syncStep_cfgErr (data : List Byte) (s : State) : (syncStep data s).cfgErr = s.cfgErr := by
  unfold syncStep; split; rfl; split <;> rfl
@[simp] theorem syncStep_irqEn (data : List Byte) (s : State) : (syncStep data s).irqEn = s.irqEn := by
  unfold syncStep; split; rfl; split <;> rfl
@[simp] theorem syncStep_irqPend (data : List Byte) (s : State) : (syncStep data s).irqPend = s.irqPend := by
  unfold syncStep; split; rfl; split <;> rfl
@[simp] theorem syncStep_segs (data : List Byte) (s : State) : (syncStep data s).segs = s.segs := by
  unfold syncStep; split; rfl; split <;> rfl
@[simp] theorem syncStep_param (data : List Byte) (s : State) : (syncStep data s).param = s.param := by
  unfold syncStep; split; rfl; split <;> rfl
@[simp] theorem syncStep_segBytesMax (data : List Byte) (s : State) : (syncStep data s).segBytesMax = s.segBytesMax := by
  unfold syncStep; split; rfl; split <;> rfl
@[simp] theorem syncStep_segCountMax (data : List Byte) (s : State) : (syncStep data s).segCountMax = s.segCountMax := by
  unfold syncStep; split; rfl; split <;> rfl
@[simp] theorem syncStep_startWaiting (data : List Byte) (s : State) : (syncStep data s).startWaiting = s.startWaiting := by
  unfold syncStep; split; rfl; split <;> rfl
@[simp] theorem syncStep_reply (data : List Byte) (s : State) : (syncStep data s).reply = s.reply := by
  unfold syncStep; split; rfl; split <;> rfl
@[simp] theorem syncStep_draws (data : List Byte) (s : State) : (syncStep data s).draws = s.draws := by
  unfold syncStep; split; rfl; split <;> rfl
@[simp] theorem syncStep_input (data : List Byte) (s : State) : (syncStep data s).input = s.input := by
  unfold syncStep; split; rfl; split <;> rfl

end Sys2Proof.Machine
end

