-- ==== Sys2Proof/Laws/PerInstr.lean ====
section
/-! SUPPORT. One family of facts made per instruction, about its encoding: the first byte of every transaction names its
format. -/

namespace Sys2Proof.Laws

/-- An instruction's encoding begins with the byte of its format. -/
def EncodingFormat.Statement (i : Instr) : Prop := (encode i).head? = some (formatTag i.format)

theorem EncodingFormat.cmdNop : EncodingFormat.Statement .cmdNop := rfl
theorem EncodingFormat.cmdStart (a : Option StorageAnswer) : EncodingFormat.Statement (.cmdStart a) := by cases a <;> rfl
theorem EncodingFormat.cmdCancel : EncodingFormat.Statement .cmdCancel := rfl
theorem EncodingFormat.cmdClrerr : EncodingFormat.Statement .cmdClrerr := rfl
theorem EncodingFormat.cmdSoftreset : EncodingFormat.Statement .cmdSoftreset := rfl
theorem EncodingFormat.rxData (data : List Byte) : EncodingFormat.Statement (.rxData data) := rfl
theorem EncodingFormat.rxFail : EncodingFormat.Statement .rxFail := rfl
theorem EncodingFormat.saOpenOk : EncodingFormat.Statement .saOpenOk := rfl
theorem EncodingFormat.saOpenFail : EncodingFormat.Statement .saOpenFail := rfl
theorem EncodingFormat.wrCmd (d : Word) (a : Option StorageAnswer) : EncodingFormat.Statement (.wrCmd d a) := by cases a <;> rfl
theorem EncodingFormat.wrHdr0 (d : Word) : EncodingFormat.Statement (.wrHdr0 d) := rfl
theorem EncodingFormat.wrHdr1 (d : Word) : EncodingFormat.Statement (.wrHdr1 d) := rfl
theorem EncodingFormat.wrBudget (d : Word) : EncodingFormat.Statement (.wrBudget d) := rfl
theorem EncodingFormat.wrSegBytes (d : Word) : EncodingFormat.Statement (.wrSegBytes d) := rfl
theorem EncodingFormat.wrSegCount (d : Word) : EncodingFormat.Statement (.wrSegCount d) := rfl
theorem EncodingFormat.wrIrq (d : Word) : EncodingFormat.Statement (.wrIrq d) := rfl
theorem EncodingFormat.wrReadonlyOrReserved (n : BitVec 6) (d : Word) : EncodingFormat.Statement (.wrReadonlyOrReserved n d) := rfl
theorem EncodingFormat.rd (n : BitVec 6) : EncodingFormat.Statement (.rd n) := rfl
theorem EncodingFormat.read (seg off n : Word) : EncodingFormat.Statement (.read seg off n) := rfl
theorem EncodingFormat.stepCheck : EncodingFormat.Statement .stepCheck := rfl
theorem EncodingFormat.stepDeliver : EncodingFormat.Statement .stepDeliver := rfl
theorem EncodingFormat.stepRotate (a : Option StorageAnswer) : EncodingFormat.Statement (.stepRotate a) := by cases a <;> rfl
theorem EncodingFormat.stepReset : EncodingFormat.Statement .stepReset := rfl

end Sys2Proof.Laws
end

