-- ==== Sys2Proof/Tests/Slice0.lean ====
section
/-! SUPPORT. The model's own tests. Expected values are those of the spec: 30_encoding.md's tables for the words, the vectors
V-… and the programs P1 to P6 of 95_test_vectors.md for the steps. Then, for every statement that has hypotheses, a concrete
state and operands that meet them. -/

namespace Sys2Proof.Tests

open Machine

/-- The outcome is a next state with the property. -/
def nextHas (o : Host.Outcome State Fault Refusal) (p : State → Bool) : Bool :=
  match o with
  | .next t => p t
  | .fault _ => false
  | .refused _ => false

/-- The outcome is this refusal. -/
def refusedFor (o : Host.Outcome State Fault Refusal) (r : Refusal) : Bool :=
  match o with
  | .next _ => false
  | .fault _ => false
  | .refused r' => decide (r' = r)

/-- `n` copies of a byte, the spec's B×n (00_scope.md R12). -/
def rep (b : Byte) (n : Nat) : List Byte := List.replicate n b

/-- HDR at reset. -/
def hdr : List Byte := [0x00, 0x80, 0xE1, 0x12, 0x34, 0x56]

/-- FRAME(B×512) (30_encoding.md R130). -/
def frame (b : Byte) : List Byte := hdr ++ rep b 512

/-- An open and an absent entry of the store. -/
def openSeg : Segment := { present := true, active := true, len := 2048#32, bytes := [] }

/-- After CONFIG 100, 2048, 2, CMD START, SA OK and STEP CHECK: the start of 95_test_vectors.md section L2. -/
def syncing : State :=
  { State.reset with ph := .sync, budget := 100#32, segBytes := 2048#32, segCount := 2#32, slots := 4#32, capacity := 8#32,
                     rot := .segmentOpen, segs := openSeg :: List.replicate 31 Segment.absent }

/-- `syncing` before its STEP CHECK. -/
def checking : State := { syncing with ph := .check }

/-- `syncing` with a frame of bytes `b` held. -/
def delivering (b : Byte) : State := { syncing with ph := .deliver, fh := true, frame := frame b }

/-- `syncing` with segment 0 full after four rows. -/
def rotating : State := { syncing with ph := .rotate, rot := .segmentFull, cursor := 4#32, sw := 4#32 }

/-- `rotating` with segment 1 full too: the last one. -/
def rotatingLast : State := { rotating with segIndex := 1#32, segs := List.replicate 32 openSeg }

/-- After V-ROT-4's last ROTATE: CHECK with the rotator Terminated, BUDGET 10. -/
def terminatedCheck : State :=
  { checking with rot := .terminated, budget := 10#32, segIndex := 2#32, cursor := 4#32, sw := 8#32,
                  segs := List.replicate 32 Segment.absent }

/-- IDLE with the configuration of `syncing`. -/
def configured : State := { State.reset with budget := 100#32, segBytes := 2048#32, segCount := 2#32 }

/-! ### Well-formedness -/

/-- `rep 0 65536` is such an answer (`test_long_answer_exists`). -/
theorem test_wellFormed_refuses_long_answer (data : List Byte) (h : data.length = 65536) :
    Instr.wellFormed (.rxData data) = false := by simp [Instr.wellFormed, h]

theorem test_wellFormed_takes_longest_answer (data : List Byte) (h : data.length = 65535) :
    Instr.wellFormed (.rxData data) = true := by simp [Instr.wellFormed, h]

theorem test_long_answer_exists : ∃ data : List Byte, data.length = 65536 := ⟨rep 0 65536, by simp only [rep, List.length_replicate]⟩

theorem test_wellFormed_refuses_named_register : Instr.wellFormed (.wrReadonlyOrReserved 2#6 0#32) = false := by decide

theorem test_wellFormed_takes_reserved_register : Instr.wellFormed (.wrReadonlyOrReserved 13#6 0#32) = true := by decide

/-! ### Decoding: each word from its table in 30_encoding.md -/

theorem test_decode_cmd :
    decode [0x00, 0x00, 0x00, 0x00, 0x00] = .ok .cmdNop [] ∧
    decode [0x00, 0x01, 0x00, 0x00, 0x00] = .ok (.cmdStart none) [] ∧
    decode [0x00, 0x02, 0x00, 0x00, 0x00] = .ok .cmdCancel [] ∧
    decode [0x00, 0x03, 0x00, 0x00, 0x00] = .ok .cmdClrerr [] ∧
    decode [0x00, 0x04, 0x00, 0x00, 0x00] = .ok .cmdSoftreset [] := by decide

/-- START with OPEN_FAIL attached (log entry 2). -/
theorem test_decode_cmd_answered :
    decode [0x80, 0x01, 0x00, 0x00, 0x00, 0x00, 0x00, 0x00, 0x00] = .ok (.cmdStart (some .fail)) [] := by decide

/-- V-HOST-2 and V-HOST-3: illegal words are no commands. -/
theorem test_decode_illegal_command_word :
    decode [0x00, 0x05, 0x00, 0x00, 0x00] = .ok (.wrCmd 5#32 none) [] ∧
    decode [0x00, 0x01, 0x01, 0x00, 0x00] = .ok (.wrCmd 0x101#32 none) [] := by decide

/-- R117: N in [15:0] of the word, the bytes after it; FAIL is bit 31. -/
theorem test_decode_link :
    decode [0x01, 0x02, 0x00, 0x00, 0x00, 0xAA, 0xBB, 0xCC] = .ok (.rxData [0xAA, 0xBB]) [0xCC] ∧
    decode [0x01, 0x00, 0x00, 0x00, 0x00] = .ok (.rxData []) [] ∧
    decode [0x01, 0x00, 0x00, 0x00, 0x80] = .ok .rxFail [] := by decide

/-- R118: RSVD not zero, FAIL with N not zero, missing bytes. -/
theorem test_decode_link_ill_formed :
    decode [0x01, 0x00, 0x00, 0x01, 0x00] = .bad .illFormedLinkAnswer ∧
    decode [0x01, 0x01, 0x00, 0x00, 0x80, 0xAA] = .bad .illFormedLinkAnswer ∧
    decode [0x01, 0x02, 0x00, 0x00, 0x00, 0xAA] = .bad .missingBytes := by decide

theorem test_decode_storage :
    decode [0x02, 0x01, 0x00, 0x00, 0x00] = .ok .saOpenOk [] ∧
    decode [0x02, 0x00, 0x00, 0x00, 0x00] = .ok .saOpenFail [] ∧
    decode [0x02, 0x02, 0x00, 0x00, 0x00] = .bad .illFormedStorageAnswer := by decide

/-- The offsets of 10_state.md R51. -/
theorem test_decode_hostbus_wr :
    decode [0x03, 0x00, 0x02, 0x00, 0x00, 0x00] = .ok (.wrCmd 2#32 none) [] ∧
    decode [0x03, 0x08, 0x00, 0x80, 0xE1, 0x12] = .ok (.wrHdr0 0x12E18000#32) [] ∧
    decode [0x03, 0x0C, 0x34, 0x56, 0x00, 0x00] = .ok (.wrHdr1 0x5634#32) [] ∧
    decode [0x03, 0x10, 0x0A, 0x00, 0x00, 0x00] = .ok (.wrBudget 10#32) [] ∧
    decode [0x03, 0x14, 0xE8, 0x03, 0x00, 0x00] = .ok (.wrSegBytes 1000#32) [] ∧
    decode [0x03, 0x18, 0x02, 0x00, 0x00, 0x00] = .ok (.wrSegCount 2#32) [] ∧
    decode [0x03, 0x30, 0x03, 0x00, 0x00, 0x00] = .ok (.wrIrq 3#32) [] := by decide

theorem test_decode_hostbus_wr_readonly :
    decode [0x03, 0x04, 0x01, 0x00, 0x00, 0x00] = .ok (.wrReadonlyOrReserved 1#6 1#32) [] ∧
    decode [0x03, 0x34, 0x01, 0x00, 0x00, 0x00] = .ok (.wrReadonlyOrReserved 13#6 1#32) [] ∧
    decode [0x03, 0xFC, 0x01, 0x00, 0x00, 0x00] = .ok (.wrReadonlyOrReserved 63#6 1#32) [] := by decide

theorem test_decode_hostbus_rd :
    decode [0x04, 0x00] = .ok (.rd 0#6) [] ∧ decode [0x04, 0x1C] = .ok (.rd 7#6) [] ∧
    decode [0x04, 0xFC] = .ok (.rd 63#6) [] := by decide

/-- V-HOST-13. -/
theorem test_decode_misaligned : decode [0x04, 0x06] = .bad .misalignedOffset := by decide

/-- The model's own layout (log entry 11). -/
theorem test_decode_read_and_internal :
    decode [0x05, 1, 0, 0, 0, 2, 0, 0, 0, 3, 0, 0, 0] = .ok (.read 1#32 2#32 3#32) [] ∧
    decode [0x06, 0x00] = .ok .stepCheck [] ∧ decode [0x06, 0x01] = .ok .stepDeliver [] ∧
    decode [0x06, 0x02] = .ok (.stepRotate none) [] ∧ decode [0x06, 0x03] = .ok .stepReset [] ∧
    decode [0x86, 0x02, 0x01, 0x00, 0x00, 0x00] = .ok (.stepRotate (some .ok)) [] := by decide

theorem test_decodeTableWord :
    decodeTableWord 32 1 = some (.cmdStart none) ∧ decodeTableWord 32 0x80000000 = some .rxFail ∧
    decodeTableWord 32 6 = some (.rxData (rep 0 6)) ∧ decodeTableWord 8 0x14 = some (.wrSegBytes 0#32) ∧
    decodeTableWord 8 0x1C = some (.rd 7#6) ∧ decodeTableWord 32 0x00010000 = none := by decide

/-- R125. -/
theorem test_segment_file_name : segmentFileName 0 = "segment-1" ∧ segmentFileName 31 = "segment-32" := by decide

/-- R130's pseudo-operations. -/
theorem test_script :
    setHdr 0x00 0x80 0xE1 0x12 0x34 0x56 = [.wrHdr0 0x12E18000#32, .wrHdr1 0x5634#32] ∧
    scriptBytes (config 10#32 2048#32 2#32) =
      [0x03, 0x10, 0x0A, 0, 0, 0, 0x03, 0x14, 0, 0x08, 0, 0, 0x03, 0x18, 2, 0, 0, 0] ∧
    scriptBytes [irqOn, irqAck, rxTimeout] = [0x03, 0x30, 1, 0, 0, 0, 0x03, 0x30, 3, 0, 0, 0, 0x01, 0, 0, 0, 0] ∧
    frameOf State.reset [0x11] = [0x00, 0x80, 0xE1, 0x12, 0x34, 0x56, 0x11] := by decide

/-! ### Steps -/

/-- V-HOST-1. -/
theorem test_reset_reads :
    readRegister 1#6 State.reset = 0#32 ∧ readRegister 2#6 State.reset = 0x12E18000#32 ∧
    readRegister 5#6 State.reset = 0x01000000#32 ∧ readRegister 11#6 State.reset = 0x02060800#32 := by decide

/-- The first step after reset runs the placed transaction: WR BUDGET with data 0. -/
theorem test_withFetchWord : nextHas (step (State.reset.withFetchWord 8 0x10)) (fun t => t.budget = 0#32) = true := by decide

/-- V-ROT-1: STATUS 0x00000009 after START, and R282's example: SLOTS is 32768 with the reset configuration. -/
theorem test_start : nextHas (exec (.cmdStart (some .ok)) State.reset)
    (fun t => statusWord t = 0x9#32 ∧ t.slots = 32768#32 ∧ (t.seg 0).active = true) = true := by decide +kernel

/-- V-HOST-5: STATUS 0x00000400. -/
theorem test_start_illegal_config : nextHas (exec (.cmdStart none) { State.reset with segBytes := 1000#32 })
    (fun t => statusWord t = 0x400#32 ∧ t.startWaiting = false) = true := by decide

/-- SEG_BYTES_MAX and SEG_COUNT_MAX are parameters (00_scope.md R8): a smaller one makes the same configuration illegal. -/
theorem test_start_above_maxima :
    nextHas (exec (.cmdStart none) { configured with segCountMax := 1 }) (fun t => statusWord t = 0x400#32) = true ∧
    nextHas (exec (.cmdStart none) { configured with segBytesMax := 1024 }) (fun t => statusWord t = 0x400#32) = true ∧
    refusedFor (exec (.read 1#32 0#32 1#32) { configured with segCountMax := 1 }) .readOfAbsentSegment = true := by decide

theorem test_nop : nextHas (exec .cmdNop syncing) (fun t => t = syncing) = true := by decide +kernel

/-- P4: STATUS 0x0000010A. -/
theorem test_cancel : nextHas (exec .cmdCancel syncing) (fun t => statusWord t = 0x10A#32) = true := by decide

/-- V-HOST-4: STATUS 0x00000200. -/
theorem test_cancel_idle : nextHas (exec .cmdCancel State.reset) (fun t => statusWord t = 0x200#32) = true := by decide

/-- V-HOST-9: STATUS 0x0000000A in SYNC. -/
theorem test_clrerr : nextHas (exec .cmdClrerr { syncing with cmdErr := true, cfgErr := true })
    (fun t => statusWord t = 0xA#32) = true := by decide

/-- P6: STATUS 0, the configuration kept, segment 0 released. -/
theorem test_softreset : nextHas (exec .cmdSoftreset { syncing with window := [1, 2], sw := 5#32 })
    (fun t => statusWord t = 0#32 ∧ t.segBytes = 2048#32 ∧ (t.seg 0).present = true ∧ (t.seg 0).active = false ∧
      t.window = [] ∧ t.sw = 0#32) = true := by decide +kernel

/-- V-SYNC-2: WIN_LEN 518 after a miss of 600 bytes. V-SYNC-11: a match at 512 with six bytes waits; STATUS 0x0000100A. -/
theorem test_rx_miss_and_wait :
    nextHas (exec (.rxData (rep 0xFF 600)) syncing)
      (fun t => t.window = rep 0xFF 518 ∧ statusWord t = 0xA#32) = true ∧
    nextHas (exec (.rxData (rep 0xFF 512 ++ hdr)) syncing)
      (fun t => t.window.length = 518 ∧ statusWord t = 0x100A#32) = true := by decide +kernel

/-- V-SYNC-5: headers at offsets 3 and 9; the frame starts at 3. V-SYNC-6: the second frame's header is cut off. -/
theorem test_rx_emission :
    nextHas (exec (.rxData (rep 0xFF 3 ++ hdr ++ hdr ++ rep 0 506)) syncing)
      (fun t => t.frame = hdr ++ hdr ++ rep 0 506 ∧ t.window = t.frame ∧ t.ph = .deliver) = true ∧
    nextHas (exec (.rxData (frame 0xA1 ++ frame 0xB2 ++ rep 0xEE 10)) syncing)
      (fun t => t.frame = frame 0xA1 ∧ t.window = rep 0xB2 508 ++ rep 0xEE 10) = true := by decide +kernel

/-- V-EXC-1: STATUS 0x00000086 and PEND, with a cancel pending. -/
theorem test_rx_fail : nextHas (exec .rxFail { syncing with cancelReq := true })
    (fun t => statusWord t = 0x86#32 ∧ t.irqPend = true ∧ (t.seg 0).active = false) = true := by decide +kernel

/-- V-EXC-2: STATUS 0x000000A6, exists[0] = 0. -/
theorem test_sa_fail : nextHas (exec .saOpenFail { configured with startWaiting := true })
    (fun t => statusWord t = 0xA6#32 ∧ (t.seg 0).present = false ∧ t.cursor = 0#32) = true := by decide +kernel

/-- V-ROT-3: the answer to the rotation. -/
theorem test_sa_ok_rotation : nextHas (exec .saOpenOk rotating)
    (fun t => statusWord t = 0x9#32 ∧ t.segIndex = 1#32 ∧ t.cursor = 0#32 ∧ (t.seg 0).active = false ∧
      (t.seg 1).active = true) = true := by decide +kernel

/-- V-HOST-3: RSVD not zero is no START. -/
theorem test_wr_cmd_illegal : nextHas (exec (.wrCmd 0x101#32 none) State.reset) (fun t => statusWord t = 0x200#32) = true := by
  decide

/-- V-HOST-15: HDR1's upper half is ignored. -/
theorem test_wr_hdr1 : nextHas (exec (.wrHdr1 0xFFFF5678#32) State.reset)
    (fun t => readRegister 3#6 t = 0x5678#32) = true := by decide

theorem test_wr_hdr0 : nextHas (exec (.wrHdr0 0x04030201#32) State.reset)
    (fun t => t.hdr = [1, 2, 3, 4, 0x34, 0x56]) = true := by decide

/-- V-HOST-7: STATUS 0x0000020A. -/
theorem test_wr_budget_running : nextHas (exec (.wrBudget 5#32) syncing)
    (fun t => t.budget = 100#32 ∧ statusWord t = 0x20A#32) = true := by decide

theorem test_wr_seg_bytes : nextHas (exec (.wrSegBytes 1000#32) State.reset) (fun t => t.segBytes = 1000#32) = true := by decide

theorem test_wr_seg_count : nextHas (exec (.wrSegCount 33#32) State.reset) (fun t => t.segCount = 33#32) = true := by decide

/-- V-HOST-11: IRQACK keeps EN and clears PEND. -/
theorem test_wr_irq_ack : nextHas (exec irqAck { State.reset with irqEn := true, irqPend := true })
    (fun t => readRegister 12#6 t = 1#32) = true := by decide

/-- V-HOST-16: bit 1 = 0 leaves PEND. -/
theorem test_wr_irq_on : nextHas (exec irqOn { State.reset with irqPend := true })
    (fun t => readRegister 12#6 t = 3#32) = true := by decide

/-- V-HOST-12. -/
theorem test_wr_reserved : nextHas (exec (.wrReadonlyOrReserved 13#6 7#32) State.reset) (fun t => t = State.reset) = true := by
  decide +kernel

theorem test_rd : nextHas (exec (.rd 2#6) State.reset) (fun t => t.reply = .word 0x12E18000#32) = true := by decide

/-- V-HOST-14: refused while the segment is active. -/
theorem test_read_active : refusedFor (exec (.read 0#32 0#32 4#32) syncing) .readOfActiveSegment = true := by decide

/-- A released segment reads its bytes in ascending order, 0x00 where nothing is listed. -/
theorem test_read : nextHas (exec (.read 0#32 511#32 3#32)
      { State.reset with segs := [{ present := true, active := false, len := 514#32, bytes := [(511, 5#8), (513, 6#8)] }] })
    (fun t => t.reply = .bytes [5, 0, 6]) = true := by decide

/-- V-LOOP-5 and V-ROT-4: STATUS 0x0000005D. -/
theorem test_check_capacity : nextHas (exec .stepCheck terminatedCheck)
    (fun t => statusWord t = 0x5D#32 ∧ t.sw = 8#32) = true := by decide +kernel

/-- V-LOOP-2: BUDGET and Terminated together give BUDGET_REACHED; STATUS 0x0000003D. -/
theorem test_check_budget_first : nextHas (exec .stepCheck { terminatedCheck with budget := 8#32 })
    (fun t => statusWord t = 0x3D#32) = true := by decide +kernel

/-- V-ROT-2: the slot at cursor 2 is bytes 1024 to 1535. -/
theorem test_deliver : nextHas (exec .stepDeliver { delivering 7 with cursor := 2#32, sw := 2#32 })
    (fun t => readStore t 0 1023 = 0#8 ∧ readStore t 0 1024 = 7#8 ∧ readStore t 0 1535 = 7#8 ∧ readStore t 0 1536 = 0#8 ∧
      t.cursor = 3#32 ∧ t.sw = 3#32 ∧ t.ph = .check) = true := by decide +kernel

/-- V-LOOP-1: the last slot fills the segment. -/
theorem test_deliver_fills : nextHas (exec .stepDeliver { delivering 7 with cursor := 3#32, sw := 3#32 })
    (fun t => t.cursor = 4#32 ∧ t.rot = .segmentFull ∧ t.sw = 4#32 ∧ t.ph = .rotate) = true := by decide +kernel

/-- V-DEC-2 and V-DEC-5. -/
theorem test_decode_frame :
    frameSamples (hdr ++ [1, 2, 3, 4] ++ rep 0 508) = 0x04030201#32 :: List.replicate 127 0#32 ∧
    (frameSamples (hdr ++ rep 0 508 ++ [0xAA, 0xBB, 0xCC, 0xDD]))[127]? = some 0xDDCCBBAA#32 := by decide +kernel

/-- V-ROT-4: Terminated, seg_index 2, the cursor stays 4. -/
theorem test_rotate_terminates : nextHas (exec (.stepRotate none) rotatingLast)
    (fun t => t.rot = .terminated ∧ t.segIndex = 2#32 ∧ t.cursor = 4#32 ∧ t.ph = .check) = true := by decide +kernel

/-- V-ROT-8: STATUS 0x000000A6, exists[1] = 0, segment 0 readable, SLOT_CURSOR stays at SLOTS. -/
theorem test_rotate_fail : nextHas (exec (.stepRotate (some .fail)) rotating)
    (fun t => statusWord t = 0xA6#32 ∧ (t.seg 1).present = false ∧ (t.seg 0).present = true ∧ t.cursor = 4#32 ∧
      t.segIndex = 1#32) = true := by decide +kernel

theorem test_step_reset : nextHas (exec .stepReset { syncing with irqEn := true, irqPend := true })
    (fun t => statusWord t = 0#32 ∧ t.irqEn = false ∧ (t.seg 0).present = false ∧ t.budget = 0x00100000#32) = true := by
  decide +kernel

/-- 92_eei_decisions.md D32's refusal at the step. -/
theorem test_step_refuses_misaligned :
    refusedFor (step { State.reset with input := [0x04, 0x06] }) (.badTransaction .misalignedOffset) = true := by decide

/-! ### Witnesses: for each statement with hypotheses, states and operands that meet them, one for each clause -/

theorem witness_DecodeOfEncodeIsIdentity :
    Instr.wellFormed (.rxData [0xAA]) = true ∧ Instr.wellFormed (.wrReadonlyOrReserved 63#6 1#32) = true := by decide

theorem witness_OffsetDecode : (0xFC#8).toNat % 4 = 0 ∧ (0xFF#8).toNat % 4 ≠ 0 := by decide

theorem witness_IllFormedLinkAnswersHaveNoStep :
    syncing.readMax < (rep 0 2049).length ∧ syncing.ph = .sync ∧
    0x10000 / 0x10000 % 0x8000 ≠ 0 ∧ 0x7FFF0000 / 0x10000 % 0x8000 ≠ 0 ∧ 0x80000000 ≤ 0x80000001 ∧ 0x80000001 % 0x10000 ≠ 0 ∧
    (0xFFFF#32).toNat < 0x10000 ∧ ([] : List Byte).length < (1#32).toNat ∧
    { syncing with input := [1, 1, 0, 0, 0] }.input = 0x01#8 :: (wordBytes 1#32 ++ []) := by
  refine ⟨?_, rfl, ?_⟩ <;> decide +kernel

theorem witness_StepRunsDecodedInstruction :
    Instr.wellFormed (.rd 1#6) = true ∧ decode { syncing with input := [0x04, 0x04, 0x00] }.input = .ok (.rd 1#6) [0x00] := by
  decide

theorem witness_StepWithoutTransaction :
    checking.input = [] ∧ checking.ph = .check ∧ (delivering 1).input = [] ∧ (delivering 1).ph = .deliver ∧
    rotating.input = [] ∧ rotating.ph = .rotate ∧ State.reset.input = [] ∧ Stopped State.reset ∧ syncing.input = [] ∧
    syncing.ph = .sync := ⟨rfl, rfl, rfl, rfl, rfl, rfl, rfl, .inl rfl, rfl, rfl⟩

/-- The least and the largest legal configuration; R38, R39. -/
theorem legalConfig_bounds :
    LegalConfig { State.reset with segBytes := 512#32, segCount := 1#32 } ∧ LegalConfig State.reset := by
  unfold LegalConfig; decide

/-- For StartOpensSegmentZero, StartOpenFailureIsFatal and StartAnsweredLaterIsStartAnswered, from IDLE, DONE and FAULT. -/
theorem witness_StartOpensSegmentZero :
    Stopped State.reset ∧ LegalConfig State.reset ∧ State.reset.segs.length = State.reset.segCountMax ∧ CapacityFits State.reset ∧
    Stopped { configured with ph := .done, startWaiting := true } ∧
    LegalConfig { configured with ph := .done, startWaiting := true } ∧
    { configured with ph := .done, startWaiting := true }.segs.length = 32 ∧
    { configured with ph := .done, startWaiting := true }.segCountMax = 32 ∧
    { configured with ph := .done, startWaiting := true }.startWaiting = true :=
  ⟨.inl rfl, legalConfig_bounds.2, rfl, by unfold CapacityFits; decide, .inr (.inl rfl), by unfold LegalConfig; decide, rfl, rfl, rfl⟩

theorem witness_StartOpenFailureIsFatal :
    Stopped { configured with ph := .fault, startWaiting := true } ∧
    LegalConfig { configured with ph := .fault, startWaiting := true } ∧
    { configured with ph := .fault, startWaiting := true }.segs.length = 32 ∧
    { configured with ph := .fault, startWaiting := true }.segCountMax = 32 ∧
    { configured with ph := .fault, startWaiting := true }.startWaiting = true :=
  ⟨.inr (.inr rfl), by unfold LegalConfig; decide, rfl, rfl, rfl⟩

theorem witness_StartTurnedAway :
    InSession rotating ∧ Stopped { configured with segCount := 33#32 } ∧ ¬ LegalConfig { configured with segCount := 33#32 } ∧
    Stopped { configured with segBytes := 0x01000200#32 } ∧ ¬ LegalConfig { configured with segBytes := 0x01000200#32 } :=
  ⟨.inr (.inr (.inr rfl)), .inl rfl, by unfold LegalConfig; decide, .inl rfl, by unfold LegalConfig; decide⟩

theorem witness_StartAnsweredLaterIsStartAnswered : Stopped configured ∧ LegalConfig configured :=
  ⟨.inl rfl, by unfold LegalConfig; decide⟩

/-- For CancelRequests and ConfigurationWrites. -/
theorem witness_CancelRequests : InSession checking ∧ InSession syncing ∧ Stopped State.reset :=
  ⟨.inl rfl, .inr (.inl rfl), .inl rfl⟩

theorem witness_ConfigurationWrites :
    Stopped configured ∧ InSession syncing ∧
    Instr.wrBudget 5#32 ∈ [Instr.wrHdr0 5#32, .wrHdr1 5#32, .wrBudget 5#32, .wrSegBytes 5#32, .wrSegCount 5#32] :=
  ⟨.inl rfl, .inr (.inl rfl), by decide⟩

theorem witness_CommandWordDispatch : 4 < (5#32).toNat ∧ 4 < (0xFFFFFFFF#32).toNat := by decide

theorem witness_HeaderWrittenIsHeaderScanned : Stopped State.reset := .inl rfl

theorem witness_ReadonlyWriteIgnored :
    hostWriteOf 1#6 7#32 = .wrReadonlyOrReserved 1#6 7#32 ∧ hostWriteOf 13#6 7#32 = .wrReadonlyOrReserved 13#6 7#32 ∧
    hostWriteOf 63#6 7#32 = .wrReadonlyOrReserved 63#6 7#32 ∧ (1#6).toNat ∉ [0, 2, 3, 4, 5, 6, 12] ∧
    (13#6).toNat ∉ [0, 2, 3, 4, 5, 6, 12] ∧ (12#6).toNat ∈ [0, 2, 3, 4, 5, 6, 12] := by decide

theorem witness_RegisterReads : syncing.window.length < 4294967296 ∧ 13 ≤ (13#6).toNat ∧ 13 ≤ (63#6).toNat := by decide

/-- One released segment of 2048 bytes at number 31. -/
def released31 : State :=
  { State.reset with segs := List.replicate 31 Segment.absent ++ [{ openSeg with active := false }] }

/-- Inside up to the last byte; then one byte too far, an absent segment, number 32, and no byte at all. -/
theorem witness_StoreRead :
    (31#32).toNat < released31.segCountMax ∧ (released31.seg 31).present = true ∧ (released31.seg 31).active = false ∧ 1 ≤ (2#32).toNat ∧
    (2046#32).toNat + (2#32).toNat ≤ (released31.seg 31).len.toNat ∧
    ¬ (2046#32).toNat + (3#32).toNat ≤ (released31.seg 31).len.toNat ∧ ¬ (released31.seg 30).present = true ∧
    ¬ (32#32).toNat < released31.segCountMax ∧ ¬ 1 ≤ (0#32).toNat := by decide +kernel

/-- A window shorter than six bytes holds no header (41_frame_sync.md R171). -/
theorem no_header_short (h w : List Byte) (hw : w.length < 6) (o : Nat) : ¬ HeaderAt h w o :=
  fun ho => by have := ho.1; omega

theorem witness_SyncMiss :
    syncing.ph = .sync ∧ (rep 0xFF 4).length ≤ syncing.readMax ∧
    ∀ o, ¬ HeaderAt syncing.hdr (syncing.window ++ rep 0xFF 4) o :=
  ⟨rfl, by decide, fun o => no_header_short _ _ (by decide) o⟩

/-- V-SYNC-4a's header and 100 bytes; the longest wait is 517 bytes from the match. -/
theorem witness_SyncWait :
    syncing.ph = .sync ∧ (hdr ++ rep 0 511).length ≤ syncing.readMax ∧
    HeaderAt syncing.hdr (syncing.window ++ (hdr ++ rep 0 511)) 0 ∧
    (∀ j, j < 0 → ¬ HeaderAt syncing.hdr (syncing.window ++ (hdr ++ rep 0 511)) j) ∧
    (syncing.window ++ (hdr ++ rep 0 511)).length < 0 + 518 :=
  ⟨rfl, by decide +kernel, by unfold HeaderAt; decide +kernel, fun j hj => by omega, by decide +kernel⟩

/-- The shortest emission is 518 bytes from the match. -/
theorem witness_SyncEmission :
    syncing.ph = .sync ∧ (frame 0).length ≤ syncing.readMax ∧ HeaderAt syncing.hdr (syncing.window ++ frame 0) 0 ∧
    (∀ j, j < 0 → ¬ HeaderAt syncing.hdr (syncing.window ++ frame 0) j) ∧ 0 + 518 ≤ (syncing.window ++ frame 0).length :=
  ⟨rfl, by decide +kernel, by unfold HeaderAt; decide +kernel, fun j hj => by omega, by decide +kernel⟩

theorem witness_LinkFailureIsFatal : syncing.ph = .sync := rfl

theorem witness_NoLinkStepOutsideSync : State.reset.ph ≠ .sync ∧ checking.ph ≠ .sync := by decide

theorem witness_FirstMatchIsLeast :
    hdr.length = 6 ∧ firstMatch hdr (0xFF :: hdr) = some 1 ∧ firstMatch hdr (rep 0xFF 7) = none := by decide

theorem witness_FirstMatchStableUnderAppend :
    hdr.length = 6 ∧ firstMatch hdr hdr = some 0 ∧ firstMatch hdr (0xFF :: hdr.take 5) = none ∧
    firstMatch hdr (0xFF :: hdr.take 5 ++ [0x56]) = some 1 := by decide

/-- V-SYNC-3: a header split across two answers. -/
theorem witness_MissTrimLosesNoHeader :
    hdr.length = 6 ∧ 6 ≤ 6 ∧ firstMatch hdr (rep 0xFF 9 ++ hdr.take 3) = none ∧
    HeaderAt hdr (rep 0xFF 9 ++ hdr.take 3 ++ hdr.drop 3) 9 ∧
    firstMatch hdr (rep 0xFF 9 ++ hdr.take 3 ++ hdr.drop 3) = some 9 := by unfold HeaderAt; decide

/-- V-SYNC-13: one whole frame, then a read that times out. -/
theorem witness_FrameIsEmittedAgain :
    syncing.ph = .sync ∧ firstMatch syncing.hdr (syncing.window ++ frame 7) = some 0 ∧
    (syncing.window ++ frame 7).length - 0 ≤ syncing.keep ∧
    nextHas (exec (.rxData (frame 7)) syncing)
      (fun t => t.ph = .deliver ∧ t.window = { syncing with window := frame 7 }.window ∧ t.hdr0 = syncing.hdr0 ∧
        t.hdr1 = syncing.hdr1 ∧ t.param = syncing.param) = true ∧
    ([] : List Byte).length ≤ syncing.readMax := by decide +kernel

theorem witness_SyncIgnoresCancel : nextHas (exec (.rxData []) { syncing with cancelReq := true }) (fun _ => true) = true := by
  decide +kernel

theorem witness_DecodeLanes : (delivering 3).frame.length = 518 := by decide +kernel

theorem witness_DecodeOfEncodedFrame : (List.replicate 128 0x7FC00001#32).length = 128 := List.length_replicate

/-- A store entry in canonical form. -/
theorem storeShape_of_segs {s : State} (g : Segment) (hg : Memory.wf g.bytes) (h : s.segs = g :: List.replicate 31 Segment.absent)
    (hn : s.segCountMax = 32) : StoreShape s := by
  refine ⟨by rw [h, hn]; rfl, fun x hx => ?_⟩
  rw [h] at hx
  rcases List.mem_cons.mp hx with rfl | hx
  · exact hg
  · rw [(List.mem_replicate.mp hx).2]; decide

theorem witness_SlotWriteReadsBack : StoreShape syncing ∧ 31 < syncing.segCountMax ∧ (rep 5 512).length = 512 :=
  ⟨storeShape_of_segs openSeg (by decide) rfl rfl, by decide, by decide +kernel⟩

theorem witness_CheckGoesOnToSync :
    checking.ph = .check ∧ checking.sw.toNat < checking.budget.toNat ∧ checking.rot ≠ .terminated ∧
    checking.cancelReq = false := by decide

/-- One state for each end, the budget met exactly; and one where two hold. -/
theorem witness_CheckEndsTheSession :
    { checking with budget := 0#32 }.budget.toNat ≤ { checking with budget := 0#32 }.sw.toNat ∧
    terminatedCheck.rot = .terminated ∧ terminatedCheck.ph = .check ∧ ¬ terminatedCheck.budget.toNat ≤ terminatedCheck.sw.toNat ∧
    { checking with cancelReq := true }.cancelReq = true ∧ { checking with cancelReq := true }.ph = .check := by decide

/-- The first slot and the last. -/
theorem witness_DeliverStoresTheRow :
    (delivering 7).ph = .deliver ∧ (delivering 7).rot = .segmentOpen ∧ (delivering 7).frame.length = 518 ∧
    (delivering 7).segIndex.toNat < (delivering 7).segs.length ∧ ((delivering 7).seg 0).active = true ∧
    slotBase 0#32 + 512 ≤ ((delivering 7).seg 0).len.toNat ∧ slotBase 3#32 + 512 ≤ ((delivering 7).seg 0).len.toNat := by
  decide +kernel

theorem witness_AppendRejectedWithoutOpenSegment :
    { delivering 7 with rot := .terminated }.rot ≠ .segmentOpen ∧ { delivering 7 with rot := .terminated }.ph = .deliver := by
  decide

theorem witness_RotateTerminates :
    rotatingLast.ph = .rotate ∧ rotatingLast.segIndex + 1#32 = rotatingLast.segCount ∧
    rotatingLast.segIndex.toNat < rotatingLast.segs.length := by decide

/-- For RotateOpensTheNextSegment and RotateOpenFailureIsFatal. -/
theorem witness_RotateOpensTheNextSegment :
    rotating.ph = .rotate ∧ rotating.segIndex + 1#32 ≠ rotating.segCount ∧ rotating.segs.length = rotating.segCountMax ∧
    (rotating.segIndex + 1#32).toNat < rotating.segCountMax ∧ rotating.startWaiting = false := by decide

theorem witness_RotateOpenFailureIsFatal :
    rotating.ph = .rotate ∧ rotating.segIndex + 1#32 ≠ rotating.segCount ∧ rotating.segs.length = rotating.segCountMax ∧
    (rotating.segIndex + 1#32).toNat < rotating.segCountMax ∧ rotating.startWaiting = false := witness_RotateOpensTheNextSegment

theorem witness_OpenWaitsForItsAnswer :
    (rotating.ph = .rotate ∧ rotating.segIndex + 1#32 ≠ rotating.segCount) ∧
    (State.reset.startWaiting = false ∧ State.reset.ph ≠ .rotate) ∧
    (rotatingLast.startWaiting = false ∧ rotatingLast.segIndex + 1#32 = rotatingLast.segCount) := by decide

theorem witness_InternalStepsNeedTheirPhase : syncing.ph ≠ .check ∧ syncing.ph ≠ .deliver ∧ syncing.ph ≠ .rotate := by decide

/-- A session ends and sets IRQ_PEND; a START fails in FAULT; a link fails; IRQ_PEND is cleared. -/
theorem witness_InterruptPending :
    terminatedCheck.irqPend = false ∧
    nextHas (exec .stepCheck terminatedCheck) (fun t => t.ph = .done ∧ t.irqPend = true) = true ∧
    nextHas (exec (.cmdStart (some .fail)) { configured with ph := .fault }) (fun t => t.ph = .fault ∧ t.irqPend = true) = true ∧
    nextHas (exec .rxFail syncing) (fun t => t.ph = .fault ∧ t.irqPend = true) = true ∧
    nextHas (exec irqAck { State.reset with irqPend := true }) (fun t => t.irqPend = false) = true := by decide +kernel

theorem witness_ConfigurationFixedInSession :
    InSession syncing ∧ Instr.wrBudget 5#32 ≠ .stepReset ∧ nextHas (exec (.wrBudget 5#32) syncing) (fun _ => true) = true :=
  ⟨.inr (.inl rfl), by decide, by decide⟩

/-- A DELIVER and an open that each change a byte. -/
theorem witness_OnlyDeliverAndOpenWriteTheStore :
    (delivering 7).frame.length = 518 ∧
    nextHas (exec .stepDeliver (delivering 7)) (fun t => readStore t 0 0 ≠ readStore (delivering 7) 0 0) = true ∧
    nextHas (exec (.cmdStart (some .ok)) { configured with segs := List.replicate 32 { Segment.absent with bytes := [(0, 1#8)] } })
      (fun t => readStore t 0 0 ≠ 1#8) = true := by decide +kernel

theorem witness_OnlyDeliverCountsRows :
    nextHas (exec .stepDeliver (delivering 7)) (fun t => t.sw ≠ (delivering 7).sw) = true ∧
    nextHas (exec .cmdSoftreset rotating) (fun t => t.sw ≠ rotating.sw) = true ∧
    nextHas (exec (.wrCmd 1#32 (some .ok)) { configured with ph := .done, sw := 4#32 }) (fun t => t.sw ≠ 4#32) = true ∧
    nextHas (exec .saOpenOk { configured with ph := .done, sw := 4#32, startWaiting := true }) (fun t => t.sw ≠ 4#32) = true := by
  decide +kernel

/-- A state like `syncing`, `checking` and `delivering` meets the phase invariant. -/
theorem phaseInv_delivering (b : Byte) : PhaseInv (delivering b) := by
  constructor <;> simp [delivering, syncing, State.running, Phase.running]

theorem phaseInv_terminatedCheck : PhaseInv terminatedCheck := by
  constructor <;> simp [terminatedCheck, checking, syncing, State.running, Phase.running]

/-- In SYNC no frame is held: F and the packet registers differ, the session's SLOTS and CAPACITY do not. -/
theorem witness_FreeValuesAreUnobservable :
    PhaseInv syncing ∧ SameButFree syncing { syncing with frame := frame 9, pkAddr := hdr, draws := 3 } :=
  ⟨by constructor <;> simp [syncing, State.running, Phase.running], rfl, by simp [syncing], fun _ => ⟨rfl, rfl⟩⟩

theorem paramLegal_reset {s : State} (h : s.param = 0x02060800#32) : ParamLegal s := by
  unfold ParamLegal State.readMax State.keep; rw [h]; decide

theorem windowInv_empty {s : State} (hp : s.param = 0x02060800#32) (hw : s.window = []) : WindowInv s :=
  ⟨paramLegal_reset hp, by rw [hw]; exact Nat.zero_le _, fun _ => by rw [hw]; exact Nat.zero_le _,
    fun _ => .inl (by rw [hw]; exact Nat.zero_le _)⟩

/-- What a session's first DELIVER finds, with a budget of one row and segments of `slots` slots. -/
def lastRowIn (segBytes segCount slots capacity : Word) (input : List Byte) : State :=
  { delivering 7 with budget := 1#32, segBytes := segBytes, segCount := segCount, slots := slots, capacity := capacity,
                      segs := { openSeg with len := segBytes } :: List.replicate 31 Segment.absent, input := input }

theorem inv_lastRowIn {b n k c : Word} {is : List Byte}
    (hc : (lastRowIn b n k c is).configLegal = true ∧ k = b / 512#32 ∧ c = n * k) (hk : 1 ≤ k.toNat) (hn : 1 ≤ n.toNat)
    (hn' : n.toNat ≤ 32) (hcap : c.toNat = n.toNat * k.toNat) : Inv (lastRowIn b n k c is) := by
  refine ⟨storeShape_of_segs { openSeg with len := b } (show Memory.wf [] by decide) rfl rfl, ?_, windowInv_empty rfl rfl, ?_, ?_⟩
  · constructor <;> simp [lastRowIn, delivering, syncing, State.running, Phase.running]
  · have hseg : ∀ i, (lastRowIn b n k c is).seg (i + 1) = Segment.absent := by
      intro i
      simp only [State.seg, lastRowIn, List.getD_eq_getElem?_getD, List.getElem?_cons_succ, List.getElem?_replicate]
      split <;> rfl
    constructor
    case config => exact fun _ => hc
    case active_iff =>
      intro i
      cases i with
      | zero => exact ⟨fun _ => ⟨.inl rfl, rfl⟩, fun _ => rfl⟩
      | succ i => rw [hseg]; simp [Segment.absent, lastRowIn, delivering, syncing]
    case mapped => exact fun _ => ⟨rfl, rfl, hn⟩
    case cursor_open => exact fun _ => hk
    case cursor_full => simp [lastRowIn, delivering, syncing]
    case count => simp [lastRowIn, delivering, syncing]
    case terminated => simp [lastRowIn, delivering, syncing]
    case cursor_le => exact Nat.zero_le _
    case index_le => exact Nat.zero_le _
    case sw_le_capacity => exact Nat.zero_le _
    case sw_le_budget => exact fun _ => Nat.zero_le _
    case sw_lt_budget => exact fun _ => Nat.zero_lt_one
    case unwritten => exact fun _ _ _ _ => rfl
    case packet_length => exact ⟨List.length_replicate, List.length_replicate⟩
    case frame_length => show (frame 7).length = 518; decide +kernel
    case frame_header => intro _; show frameAddress (frame 7) = State.reset.hdr; decide +kernel
  · refine ⟨by show 32 * (16777216 / 512) < 4294967296; decide, fun _ h => ?_, by simp [lastRowIn, delivering],
      fun _ => ⟨hk, n.toNat, hn, hn', hcap, Nat.zero_le _⟩⟩
    have h : 0#32 = k := h
    rw [← h] at hk; exact absurd hk (by decide)

/-- Four slots and two segments: the row leaves its segment open. -/
def lastRow : State := lastRowIn 2048#32 2#32 4#32 8#32 []

theorem inv_lastRow : Inv lastRow := inv_lastRowIn (by decide) (by decide) (by decide) (by decide) (by decide)

/-- After the last segment is full: V-ROT-4. -/
theorem inv_terminatedCheck : Inv terminatedCheck := by
  refine ⟨storeShape_of_segs Segment.absent (by decide) rfl rfl, phaseInv_terminatedCheck, windowInv_empty rfl rfl, ?_, ?_⟩
  · have hseg : ∀ i, terminatedCheck.seg i = Segment.absent := by
      intro i
      simp only [State.seg, terminatedCheck, List.getD_eq_getElem?_getD, List.getElem?_replicate]
      split <;> rfl
    constructor
    case config => intro _; decide
    case active_iff => intro i; rw [hseg]; simp [Segment.absent, terminatedCheck]
    case unwritten => simp [terminatedCheck]
    case packet_length => decide +kernel
    case frame_length => decide +kernel
    case frame_header => simp [terminatedCheck, checking, syncing]
    all_goals decide
  · exact ⟨by show 32 * (16777216 / 512) < 4294967296; decide, fun _ _ => .inr (.inl rfl),
      by simp [terminatedCheck, checking], fun _ => ⟨by decide, 2, by decide, by decide, by decide, by decide⟩⟩

/-- `lastRow` steps, so it witnesses the four statements about what a step keeps. -/
theorem lastRow_steps : nextHas (step lastRow) (fun _ => true) = true := by decide +kernel

theorem witness_StoreShapeKept : StoreShape lastRow ∧ nextHas (step lastRow) (fun _ => true) = true :=
  ⟨inv_lastRow.store, lastRow_steps⟩

theorem witness_PhaseInvariantKept : PhaseInv lastRow ∧ nextHas (step lastRow) (fun _ => true) = true :=
  ⟨inv_lastRow.phase, lastRow_steps⟩

/-- A step; and the largest answer in SYNC. -/
theorem witness_WindowInvariantKept :
    WindowInv lastRow ∧ nextHas (step lastRow) (fun _ => true) = true ∧ WindowInv syncing ∧ syncing.ph = .sync ∧
    (rep 0 2048).length ≤ syncing.readMax :=
  ⟨inv_lastRow.window, lastRow_steps, windowInv_empty rfl rfl, rfl, by decide +kernel⟩

/-- For InvariantKept and NoStepFaults. -/
theorem witness_InvariantKept : Inv lastRow ∧ nextHas (step lastRow) (fun _ => true) = true := ⟨inv_lastRow, lastRow_steps⟩

theorem witness_NoStepFaults : Inv lastRow := inv_lastRow

theorem witness_RowLocation : Inv lastRow ∧ lastRow.ph = .deliver := ⟨inv_lastRow, rfl⟩

theorem witness_CapacityExhaustedMeansFull :
    Inv terminatedCheck ∧ nextHas (exec .stepCheck terminatedCheck) (fun t => t.exitCode = .capacityExhausted) = true :=
  ⟨inv_terminatedCheck, by decide +kernel⟩

/-- One slot a segment: the row fills the last segment, or the first of two. -/
def fillsLast : State := lastRowIn 512#32 1#32 1#32 1#32 []

def fillsFirst : State :=
  lastRowIn 512#32 2#32 1#32 2#32 (encode .stepDeliver ++ (encode (.stepRotate (some .ok)) ++ encode .stepCheck))

/-- The row leaves its segment open, fills the last segment, fills the first of two. -/
theorem witness_LastRowEndsTheSession :
    (Inv lastRow ∧ lastRow.ph = .deliver ∧ lastRow.sw + 1#32 = lastRow.budget ∧ lastRow.input = [] ∧
      lastRow.cursor + 1#32 ≠ lastRow.slots) ∧
    (Inv fillsLast ∧ fillsLast.ph = .deliver ∧ fillsLast.sw + 1#32 = fillsLast.budget ∧ fillsLast.input = [] ∧
      fillsLast.cursor + 1#32 = fillsLast.slots ∧ fillsLast.segIndex + 1#32 = fillsLast.segCount) ∧
    (Inv fillsFirst ∧ fillsFirst.ph = .deliver ∧ fillsFirst.sw + 1#32 = fillsFirst.budget ∧
      fillsFirst.input = encode .stepDeliver ++ (encode (.stepRotate (some .ok)) ++ encode .stepCheck) ∧
      fillsFirst.cursor + 1#32 = fillsFirst.slots ∧ fillsFirst.segIndex + 1#32 ≠ fillsFirst.segCount) := by
  refine ⟨⟨inv_lastRow, ?_⟩, ⟨inv_lastRowIn ?_ ?_ ?_ ?_ ?_, ?_⟩, ⟨inv_lastRowIn ?_ ?_ ?_ ?_ ?_, ?_⟩⟩ <;> decide

end Sys2Proof.Tests
end

namespace Sys2Proof.Machine

/-! ### Free values (10_state.md R57)

States that differ in free values only are one state with other free values put in: `withFree`. A guard never reads a free
value, and an operation takes such a pair of states to such a pair. -/

/-- The values that 10_state.md R57 leaves unspecified, with the model's count of draws. -/
structure FreeValues where
  frame : List Byte
  pkAddr : List Byte
  pkSample : List Word
  slots : Word
  capacity : Word
  draws : Nat

/-- `s` with other free values. -/
def withFree (v : FreeValues) (s : State) : State :=
  { s with frame := v.frame, pkAddr := v.pkAddr, pkSample := v.pkSample, slots := v.slots, capacity := v.capacity,
           draws := v.draws }

/-- The values that `s` itself has. -/
def State.freeValues (s : State) : FreeValues := ⟨s.frame, s.pkAddr, s.pkSample, s.slots, s.capacity, s.draws⟩

/-- A held frame, and SLOTS and CAPACITY in a session, are specified: `v` may not differ there. -/
def FreeIn (v : FreeValues) (s : State) : Prop :=
  (s.fh = true → v.frame = s.frame) ∧ (InSession s → v.slots = s.slots ∧ v.capacity = s.capacity)

theorem sameButFree_withFree {v : FreeValues} {s : State} (h : FreeIn v s) : SameButFree s (withFree v s) :=
  ⟨rfl, h.1, h.2⟩

theorem eq_withFree_of_sameButFree {s t : State} (h : SameButFree s t) :
    t = withFree t.freeValues s ∧ FreeIn t.freeValues s := by
  obtain ⟨heq, hframe, hlatched⟩ := h
  exact ⟨by rw [← heq]; rfl, hframe, hlatched⟩

/-- No register shows a free value (10_state.md R51, R52). -/
theorem readRegister_withFree (v : FreeValues) (n : BitVec 6) (s : State) :
    readRegister n (withFree v s) = readRegister n s := rfl

theorem not_inSession_of_stopped {s : State} (h : Stopped s) : ¬ InSession s := by
  rintro (hp | hp | hp | hp) <;> simp [Stopped, hp] at h

/-- Two choices made by one guard are related where their branches are. -/
theorem rel_ite {α : Type} {R : α → α → Prop} {c : Prop} [Decidable c] {a b a' b' : α}
    (ht : c → R a a') (he : ¬ c → R b b') : R (if c then a else b) (if c then a' else b') := by
  split
  · exact ht ‹_›
  · exact he ‹_›

/-! The operations that choose between updates. -/

theorem endSession_withFree (v : FreeValues) (code : ExitCode) (s : State) :
    endSession code (withFree v s) = withFree v (endSession code s) := by
  by_cases ho : s.rot = .segmentOpen
  · rw [endSession, endSession, if_pos ho, if_pos (show (withFree v s).rot = .segmentOpen from ho)]; rfl
  · rw [endSession, endSession, if_neg ho, if_neg (show (withFree v s).rot ≠ .segmentOpen from ho)]; rfl

/-- APPEND reads SLOTS and PK_SAMPLE, and no other value that can be free. -/
theorem append_withFree {v : FreeValues} {s : State} (hslots : v.slots = s.slots) (hsample : v.pkSample = s.pkSample) :
    append (withFree v s) = withFree v (append s) := by
  by_cases ho : s.rot = .segmentOpen
  · rw [append_of_open ho, append_of_open (s := withFree v s) ho]
    simp only [withFree, hslots, hsample]
    rfl
  · rw [append_rejected ho, append_rejected (s := withFree v s) ho]

/-- DECODE writes the packet registers from F alone. -/
theorem decodeFrame_withFree {v : FreeValues} {s : State} (hframe : v.frame = s.frame) :
    decodeFrame (withFree v s) =
      withFree { v with pkAddr := frameAddress s.frame, pkSample := frameSamples s.frame } (decodeFrame s) := by
  rw [← hframe]; rfl

theorem sameButFree_deliver {v : FreeValues} {s : State} (hframe : v.frame = s.frame) (hslots : v.slots = s.slots)
    (hcapacity : v.capacity = s.capacity) : SameButFree (deliver s) (deliver (withFree v s)) := by
  have happend := append_withFree
    (v := { v with pkAddr := frameAddress s.frame, pkSample := frameSamples s.frame }) (s := decodeFrame s) hslots rfl
  unfold deliver
  rw [decodeFrame_withFree hframe, happend]
  refine ⟨rfl, nofun, fun _ => ?_⟩
  simpa [withFree] using ⟨hslots, hcapacity⟩

theorem sameButFree_syncStep {v : FreeValues} {s : State} (h : FreeIn v s) (hp : s.ph = .sync) (data : List Byte) :
    SameButFree (syncStep data s) (syncStep data (withFree v s)) := by
  obtain ⟨hframe, hlatched⟩ := h
  have hsession : InSession s := .inr (.inl hp)
  unfold syncStep
  rw [show firstMatch (withFree v s).hdr ((withFree v s).window ++ data) = firstMatch s.hdr (s.window ++ data) from rfl]
  cases firstMatch s.hdr (s.window ++ data) with
  | none => exact ⟨rfl, hframe, hlatched⟩
  | some o =>
    exact rel_ite (fun _ => ⟨rfl, hframe, hlatched⟩) fun _ => ⟨rfl, fun _ => rfl, fun _ => hlatched hsession⟩

theorem sameButFree_endSession {v : FreeValues} {s : State} (h : FreeIn v s) (code : ExitCode) :
    SameButFree (endSession code s) (endSession code (withFree v s)) := by
  rw [endSession_withFree]
  refine sameButFree_withFree ⟨by simpa using h.1, fun hs => absurd hs (not_inSession_of_stopped ?_)⟩
  exact .inr (.inl (endSession_ph code s))

/-- The fatal path leaves F free. -/
theorem sameButFree_fatal (v : FreeValues) (code : ExitCode) (s : State) :
    SameButFree (fatal code s) (fatal code (withFree v s)) :=
  ⟨rfl, nofun, fun hs => absurd hs (not_inSession_of_stopped (.inr (.inr rfl)))⟩

theorem sameButFree_softReset (v : FreeValues) (s : State) : SameButFree (softReset s) (softReset (withFree v s)) :=
  ⟨rfl, nofun, fun hs => absurd hs (not_inSession_of_stopped (.inl rfl))⟩

theorem sameButFree_hardReset (v : FreeValues) (s : State) : SameButFree (hardReset s) (hardReset (withFree v s)) :=
  ⟨rfl, nofun, fun hs => absurd hs (not_inSession_of_stopped (.inl rfl))⟩

/-- Opening a segment reads no free value, and a failed open frees F. -/
theorem sameButFree_openSegment {v : FreeValues} {s : State} (hframe : s.fh = true → v.frame = s.frame)
    (hlatched : v.slots = s.slots ∧ v.capacity = s.capacity) (i : Nat) (b : StorageAnswer) :
    SameButFree (openSegment i b toCheck s) (openSegment i b toCheck (withFree v s)) := by
  cases b with
  | ok => exact ⟨rfl, hframe, fun _ => hlatched⟩
  | fail => exact ⟨rfl, nofun, fun _ => hlatched⟩

/-- START latches SLOTS and CAPACITY from the configuration, which is specified, and frees F. -/
theorem initSession_withFree (v : FreeValues) (s : State) :
    initSession (withFree v s) =
      withFree { v with frame := freeFrame v.draws, slots := (initSession s).slots, capacity := (initSession s).capacity,
                        draws := v.draws + 1 } (initSession s) := rfl

theorem sameButFree_startSession (v : FreeValues) (b : StorageAnswer) (s : State) :
    SameButFree (startSession b s) (startSession b (withFree v s)) := by
  rw [startSession, startSession, initSession_withFree]
  exact sameButFree_openSegment (by simp) ⟨rfl, rfl⟩ 0 b

theorem sameButFree_startCommand {v : FreeValues} {s : State} (h : FreeIn v s) (a : Option StorageAnswer) :
    SameButFree (startCommand a s) (startCommand a (withFree v s)) := by
  obtain ⟨hframe, hlatched⟩ := h
  refine rel_ite (fun _ => ⟨rfl, hframe, hlatched⟩) fun _ => rel_ite (fun _ => ?_) fun _ => ⟨rfl, hframe, hlatched⟩
  cases a with
  | none => exact ⟨rfl, hframe, hlatched⟩
  | some b => exact sameButFree_startSession v b s

theorem sameButFree_cancelCommand {v : FreeValues} {s : State} (h : FreeIn v s) :
    SameButFree (cancelCommand s) (cancelCommand (withFree v s)) :=
  rel_ite (fun _ => ⟨rfl, h.1, h.2⟩) fun _ => ⟨rfl, h.1, h.2⟩

theorem sameButFree_commandWord {v : FreeValues} {s : State} (h : FreeIn v s) (d : Word) (a : Option StorageAnswer) :
    SameButFree (commandWord d a s) (commandWord d a (withFree v s)) := by
  refine rel_ite (fun _ => ⟨rfl, h.1, h.2⟩) fun _ => ?_
  split
  · exact sameButFree_withFree h
  · exact sameButFree_startCommand h a
  · exact sameButFree_cancelCommand h
  · exact ⟨rfl, h.1, h.2⟩
  · exact sameButFree_softReset v s

/-- A write to a configuration register: `hf` says that the update takes such a pair to such a pair. -/
theorem sameButFree_writeConfig {v : FreeValues} {s : State} {f : State → State} (h : FreeIn v s)
    (hf : SameButFree (f s) (f (withFree v s))) : SameButFree (writeConfig f s) (writeConfig f (withFree v s)) :=
  rel_ite (fun _ => ⟨rfl, h.1, h.2⟩) fun _ => hf

theorem releaseFull_withFree (v : FreeValues) (s : State) : releaseFull (withFree v s) = withFree v (releaseFull s) := rfl

theorem outcomeRel_rotate {v : FreeValues} {s : State} (h : FreeIn v s) (hp : s.ph = .rotate) (a : Option StorageAnswer) :
    OutcomeRel SameButFree (rotate a s) (rotate a (withFree v s)) := by
  obtain ⟨hframe, hlatched⟩ := h
  have hsession : InSession s := .inr (.inr (.inr hp))
  refine rel_ite (fun _ => ?_) fun _ => ⟨rfl, hframe, fun _ => hlatched hsession⟩
  cases a with
  | none => exact sameButFree_withFree ⟨hframe, hlatched⟩
  | some b =>
    refine rel_ite (fun _ => ?_) fun _ => rfl
    rw [releaseFull_withFree]
    exact sameButFree_openSegment (s := releaseFull s) hframe (hlatched hsession) _ b

theorem outcomeRel_storageAnswer {v : FreeValues} {s : State} (h : FreeIn v s) (b : StorageAnswer) :
    OutcomeRel SameButFree (storageAnswer b s) (storageAnswer b (withFree v s)) :=
  rel_ite (fun _ => sameButFree_startCommand h (some b)) fun _ =>
    rel_ite (fun hp => outcomeRel_rotate h hp.1 (some b)) fun _ => rfl

/-- Every instruction keeps agreement but for free values. A held frame is needed in DELIVER only: its row is stored. -/
theorem outcomeRel_exec {v : FreeValues} {s : State} (hheld : s.ph = .deliver → s.fh = true) (h : FreeIn v s) (i : Instr) :
    OutcomeRel SameButFree (exec i s) (exec i (withFree v s)) := by
  have hframe := h.1
  have hlatched := h.2
  cases i with
  | cmdNop => exact sameButFree_withFree h
  | cmdStart a => exact sameButFree_startCommand h a
  | cmdCancel => exact sameButFree_cancelCommand h
  | cmdClrerr => exact ⟨rfl, hframe, hlatched⟩
  | cmdSoftreset => exact sameButFree_softReset v s
  | rxData data => exact rel_ite (fun hp => rel_ite (fun _ => sameButFree_syncStep h hp data) fun _ => rfl) fun _ => rfl
  | rxFail => exact rel_ite (fun _ => sameButFree_fatal v .linkFailure s) fun _ => rfl
  | saOpenOk => exact outcomeRel_storageAnswer h .ok
  | saOpenFail => exact outcomeRel_storageAnswer h .fail
  | wrCmd d a => exact sameButFree_commandWord h d a
  | wrHdr0 d => exact sameButFree_writeConfig h ⟨rfl, hframe, hlatched⟩
  | wrHdr1 d => exact sameButFree_writeConfig h ⟨rfl, hframe, hlatched⟩
  | wrBudget d => exact sameButFree_writeConfig h ⟨rfl, hframe, hlatched⟩
  | wrSegBytes d => exact sameButFree_writeConfig h ⟨rfl, hframe, hlatched⟩
  | wrSegCount d => exact sameButFree_writeConfig h ⟨rfl, hframe, hlatched⟩
  | wrIrq d => exact ⟨rfl, hframe, hlatched⟩
  | wrReadonlyOrReserved n d => exact sameButFree_withFree h
  | rd n => exact ⟨rfl, hframe, hlatched⟩
  | read seg off n =>
    exact rel_ite (fun _ => rfl) fun _ => rel_ite (fun _ => rfl) fun _ => rel_ite (fun _ => rfl) fun _ =>
      ⟨rfl, hframe, hlatched⟩
  | stepCheck =>
    refine rel_ite (fun hp => ?_) fun _ => rfl
    exact rel_ite (fun _ => sameButFree_endSession h .budgetReached) fun _ =>
      rel_ite (fun _ => sameButFree_endSession h .capacityExhausted) fun _ =>
        rel_ite (fun _ => sameButFree_endSession h .cancelled) fun _ => ⟨rfl, hframe, fun _ => hlatched (.inl hp)⟩
  | stepDeliver =>
    refine rel_ite (fun hp => ?_) fun _ => rfl
    obtain ⟨hslots, hcapacity⟩ := hlatched (.inr (.inr (.inl hp)))
    exact rel_ite (fun _ => rfl) fun _ => sameButFree_deliver (hframe (hheld hp)) hslots hcapacity
  | stepRotate a => exact rel_ite (fun hp => outcomeRel_rotate h hp a) fun _ => rfl
  | stepReset => exact sameButFree_hardReset v s

theorem outcomeRel_controllerStep {v : FreeValues} {s : State} (hheld : s.ph = .deliver → s.fh = true) (h : FreeIn v s) :
    OutcomeRel SameButFree (controllerStep s) (controllerStep (withFree v s)) := by
  unfold controllerStep
  rw [show (withFree v s).ph = s.ph from rfl]
  split
  · exact outcomeRel_exec hheld h .stepCheck
  · exact outcomeRel_exec hheld h .stepDeliver
  · exact outcomeRel_exec hheld h (.stepRotate none)
  all_goals exact sameButFree_withFree h

/-- The next transaction is read from `input`, which is no free value. -/
theorem outcomeRel_step {v : FreeValues} {s : State} (hheld : s.ph = .deliver → s.fh = true) (h : FreeIn v s) :
    OutcomeRel SameButFree (step s) (step (withFree v s)) := by
  unfold step
  rw [show fetch (withFree v s) = fetch s from rfl]
  split
  · exact outcomeRel_controllerStep hheld h
  · rename_i i rest _
    exact outcomeRel_exec (s := { s with input := rest }) hheld h i
  · rfl

/-- Settles O51: the second state is the first with other free values, and a step of the two is compared instruction by
instruction. -/
theorem freeValuesAreUnobservable : Obligations.FreeValuesAreUnobservable := by
  intro s t hinv hst
  obtain ⟨ht, hfree⟩ := eq_withFree_of_sameButFree hst
  rw [ht]
  exact ⟨outcomeRel_step hinv.held_iff.mpr hfree, fun n => readRegister_withFree _ n s⟩

end Sys2Proof.Machine

namespace Sys2Proof.Machine

/-! ### Which transaction does what (45_host_commands.md R280) -/

theorem running_iff (s : State) : s.running = true ↔ InSession s := by
  cases h : s.ph <;> simp [State.running, Phase.running, InSession, h]

theorem running_of_inSession {s : State} (h : InSession s) : s.running = true := (running_iff s).mpr h

theorem not_running_of_stopped {s : State} (h : Stopped s) : s.running = false := by
  rcases h with h | h | h <;> simp [State.running, Phase.running, h]

/-- A word with its upper 24 bits zero is its lowest byte (30_encoding.md R114). -/
theorem word_eq_of_lowByte {d : Word} {k : Nat} (hhigh : d.extractLsb' 8 24 = 0#24) (hlow : (d.extractLsb' 0 8).toNat = k) :
    d = BitVec.ofNat 32 k := by
  apply BitVec.eq_of_toNat_eq
  have hhigh := congrArg BitVec.toNat hhigh
  rw [BitVec.extractLsb'_toNat, Nat.shiftRight_eq_div_pow, BitVec.toNat_ofNat] at hhigh
  rw [BitVec.extractLsb'_toNat, Nat.shiftRight_eq_div_pow] at hlow
  rw [BitVec.toNat_ofNat]
  omega

/-- Everything a write to CMD can do, with the words START and SOFTRESET have (30_encoding.md R115). -/
theorem commandWord_word_cases (d : Word) (a : Option StorageAnswer) (s : State) :
    commandWord d a s = illegalCommand s ∨ commandWord d a s = s ∨
    (d = 1#32 ∧ commandWord d a s = startCommand a s) ∨ commandWord d a s = cancelCommand s ∨
    commandWord d a s = clearErrors s ∨ (d = 4#32 ∧ commandWord d a s = softReset s) := by
  unfold commandWord
  split
  · exact .inl rfl
  · rename_i hlegal
    obtain ⟨hhigh, hlow⟩ := not_or.mp hlegal
    have hword := fun k => word_eq_of_lowByte (k := k) (not_not.mp hhigh)
    split
    · exact .inr (.inl rfl)
    · exact .inr (.inr (.inl ⟨hword 1 ‹_›, rfl⟩))
    · exact .inr (.inr (.inr (.inl rfl)))
    · exact .inr (.inr (.inr (.inr (.inl rfl))))
    · exact .inr (.inr (.inr (.inr (.inr ⟨hword 4 (by simp only [imp_false] at *; omega), rfl⟩))))

/-- The parameters, and in a session the configuration with SLOTS and CAPACITY, are as before, and no row is counted. -/
structure Minor (s t : State) : Prop where
  sw : t.sw = s.sw
  params : t.param = s.param ∧ t.segBytesMax = s.segBytesMax ∧ t.segCountMax = s.segCountMax
  config : s.running = true → t.hdr0 = s.hdr0 ∧ t.hdr1 = s.hdr1 ∧ t.budget = s.budget ∧ t.segBytes = s.segBytes ∧
    t.segCount = s.segCount ∧ t.slots = s.slots ∧ t.capacity = s.capacity

/-- A START with its answer `b`: as CMD.START, as the word 1 written to CMD, or as the answer to a START that waits (log
entry 2). -/
def AnswersStart (i : Instr) (b : StorageAnswer) (s : State) : Prop :=
  i = .cmdStart (some b) ∨ i = .wrCmd 1#32 (some b) ∨ ((i = .saOpenOk ∨ i = .saOpenFail) ∧ s.startWaiting = true)

/-- The transactions that change a count, the configuration in a session or SLOTS and CAPACITY, each with what it does; every
other is `Minor`. -/
inductive Cause (i : Instr) (s : State) : State → Prop where
  | hardReset (hi : i = .stepReset) : Cause i s (hardReset s)
  | softReset (hi : i = .cmdSoftreset ∨ ∃ a, i = .wrCmd 4#32 a) : Cause i s (softReset s)
  | started (b : StorageAnswer) (hr : s.running = false) (hi : AnswersStart i b s) : Cause i s (startSession b s)
  | delivered (hi : i = .stepDeliver) : Cause i s (deliver s)
  | minor {t : State} (hm : Minor s t) : Cause i s t

theorem minor_refl (s : State) : Minor s s := ⟨rfl, ⟨rfl, rfl, rfl⟩, fun _ => ⟨rfl, rfl, rfl, rfl, rfl, rfl, rfl⟩⟩

theorem minor_illegalCommand (s : State) : Minor s (illegalCommand s) := by constructor <;> simp

theorem minor_cancelCommand (s : State) : Minor s (cancelCommand s) := by
  rcases cancelCommand_cases s with ⟨_, h⟩ | ⟨_, h⟩ <;> rw [h] <;> constructor <;> simp

theorem minor_endSession (code : ExitCode) (s : State) : Minor s (endSession code s) := by constructor <;> simp

theorem minor_syncStep (data : List Byte) (s : State) : Minor s (syncStep data s) := by constructor <;> simp

/-- Outside a session the configuration may change. -/
theorem minor_writeConfig {f : State → State} {s : State} (hf : (f s).sw = s.sw)
    (hp : (f s).param = s.param ∧ (f s).segBytesMax = s.segBytesMax ∧ (f s).segCountMax = s.segCountMax) :
    Minor s (writeConfig f s) := by
  rcases writeConfig_cases f s with ⟨_, h⟩ | ⟨hr, h⟩ <;> rw [h]
  · exact minor_illegalCommand s
  · exact ⟨hf, hp, by simp [hr]⟩

theorem minor_rotate {a : Option StorageAnswer} {s t : State} (h : rotate a s = .next t) : Minor s t := by
  rcases rotate_cases a s with ⟨_, h'⟩ | ⟨_, _, h'⟩ | ⟨_, _, b, _, h'⟩ | ⟨_, _, h'⟩ <;> rw [h'] at h <;> cases h
  · constructor <;> simp
  · exact minor_refl s
  · cases b <;> constructor <;> simp

theorem minor_check {s t : State} (h : execStepCheck s = .next t) : Minor s t := by
  unfold execStepCheck at h
  split at h
  · cases h
    split
    · exact minor_endSession _ s
    · split
      · exact minor_endSession _ s
      · split
        · exact minor_endSession _ s
        · constructor <;> simp
  · cases h

theorem startCommand_cause {i : Instr} {a : Option StorageAnswer} {s : State}
    (hi : ∀ b, a = some b → AnswersStart i b s) : Cause i s (startCommand a s) := by
  rcases startCommand_cases a s with ⟨_, h⟩ | ⟨hr, _, h⟩ | ⟨hr, _, _, h⟩ | ⟨hr, _, b, ha, h⟩ <;> rw [h]
  · exact .minor (minor_illegalCommand s)
  · exact .minor (by constructor <;> simp)
  · exact .minor (by constructor <;> simp)
  · exact .started b hr (hi b ha)

theorem commandWord_cause (d : Word) (a : Option StorageAnswer) (s : State) : Cause (.wrCmd d a) s (commandWord d a s) := by
  rcases commandWord_word_cases d a s with h | h | ⟨hd, h⟩ | h | h | ⟨hd, h⟩ <;> rw [h]
  · exact .minor (minor_illegalCommand s)
  · exact .minor (minor_refl s)
  · exact startCommand_cause fun b ha => .inr (.inl (by rw [hd, ha]))
  · exact .minor (minor_cancelCommand s)
  · exact .minor (by constructor <;> simp)
  · exact .softReset (.inr ⟨a, by rw [hd]⟩)

theorem storageAnswer_cause {i : Instr} {b : StorageAnswer} {s t : State} (hi : i = .saOpenOk ∨ i = .saOpenFail)
    (h : storageAnswer b s = .next t) : Cause i s t := by
  rcases storageAnswer_cases b s with ⟨hw, h'⟩ | ⟨_, _, _, h'⟩ | h' <;> rw [h'] at h
  · cases h; exact startCommand_cause fun _ _ => .inr (.inr ⟨hi, hw⟩)
  · exact .minor (minor_rotate h)
  · cases h

/-- Every next state of an instruction has one of the causes. -/
theorem exec_cause {i : Instr} {s t : State} (h : exec i s = .next t) : Cause i s t := by
  cases i with
  | cmdNop => cases h; exact .minor (minor_refl s)
  | cmdStart a => cases h; exact startCommand_cause fun b ha => .inl (by rw [ha])
  | cmdCancel => cases h; exact .minor (minor_cancelCommand s)
  | cmdClrerr => cases h; exact .minor (by constructor <;> simp)
  | cmdSoftreset => cases h; exact .softReset (.inl rfl)
  | rxData data =>
    simp only [exec, execRxData] at h
    split at h
    · split at h
      · cases h; exact .minor (minor_syncStep data s)
      · cases h
    · cases h
  | rxFail =>
    simp only [exec, execRxFail] at h
    split at h
    · cases h; exact .minor (by constructor <;> simp)
    · cases h
  | saOpenOk => exact storageAnswer_cause (.inl rfl) h
  | saOpenFail => exact storageAnswer_cause (.inr rfl) h
  | wrCmd d a => cases h; exact commandWord_cause d a s
  | wrHdr0 d => cases h; exact .minor (minor_writeConfig rfl ⟨rfl, rfl, rfl⟩)
  | wrHdr1 d => cases h; exact .minor (minor_writeConfig rfl ⟨rfl, rfl, rfl⟩)
  | wrBudget d => cases h; exact .minor (minor_writeConfig rfl ⟨rfl, rfl, rfl⟩)
  | wrSegBytes d => cases h; exact .minor (minor_writeConfig rfl ⟨rfl, rfl, rfl⟩)
  | wrSegCount d => cases h; exact .minor (minor_writeConfig rfl ⟨rfl, rfl, rfl⟩)
  | wrIrq d => cases h; exact .minor (by constructor <;> simp)
  | wrReadonlyOrReserved n d => cases h; exact .minor (minor_refl s)
  | rd n => cases h; exact .minor (by constructor <;> simp)
  | read seg off n =>
    simp only [exec, execRead] at h
    split at h
    · cases h
    · split at h
      · cases h
      · split at h
        · cases h
        · cases h; exact .minor (by constructor <;> simp)
  | stepCheck => exact .minor (minor_check h)
  | stepDeliver =>
    simp only [exec, execStepDeliver] at h
    split at h
    · split at h
      · cases h
      · cases h; exact .delivered rfl
    · cases h
  | stepRotate a =>
    simp only [exec, execStepRotate] at h
    split at h
    · exact .minor (minor_rotate h)
    · cases h
  | stepReset => cases h; exact .hardReset rfl

theorem startSession_sw (b : StorageAnswer) (s : State) : (startSession b s).sw = 0#32 := by cases b <;> rfl

/-- Settles O48: SOFTRESET and DELIVER keep the configuration too, and START runs outside a session only. -/
theorem configurationFixedInSession : Obligations.ConfigurationFixedInSession := by
  intro i s t h
  cases exec_cause h with
  | hardReset hi => exact ⟨⟨rfl, rfl, rfl⟩, fun _ hne => absurd hi hne⟩
  | softReset _ => exact ⟨⟨rfl, rfl, rfl⟩, fun _ _ => ⟨rfl, rfl, rfl, rfl, rfl, rfl, rfl⟩⟩
  | started b hr _ =>
    refine ⟨by cases b <;> exact ⟨rfl, rfl, rfl⟩, fun hs => ?_⟩
    rw [← running_iff, hr] at hs; cases hs
  | delivered _ => simp
  | minor hm => exact ⟨hm.params, fun hs _ => hm.config ((running_iff s).mpr hs)⟩

/-- Settles O50: of the causes, DELIVER counts one row, the two resets and an answered START clear SW, and no other changes it. -/
theorem onlyDeliverCountsRows : Obligations.OnlyDeliverCountsRows := by
  intro i s t h hne
  cases exec_cause h with
  | hardReset hi => exact .inr ⟨rfl, .inl hi⟩
  | softReset hi => exact .inr ⟨rfl, .inr (hi.imp_right .inl)⟩
  | started b _ hi =>
    refine .inr ⟨startSession_sw b s, .inr (.inr (.inr ?_))⟩
    rcases hi with hi | hi | hi
    · exact .inl ⟨b, .inl hi⟩
    · exact .inl ⟨b, .inr hi⟩
    · exact .inr hi
  | delivered hi => exact .inl ⟨hi, deliver_sw s⟩
  | minor hm => exact absurd hm.sw hne

end Sys2Proof.Machine

namespace Sys2Proof.Machine

/-! ### The header scan (41_frame_sync.md R171, R177) -/

theorem firstMatchFrom_eq_map (hdr : List Byte) (o : Nat) (w : List Byte) :
    firstMatchFrom hdr o w = (firstMatch hdr w).map (· + o) := by
  induction w generalizing o with
  | nil => rfl
  | cons b w ih =>
    simp only [firstMatch, firstMatchFrom, Nat.zero_add]
    split
    · simp
    · rw [ih (o + 1), ih 1, Option.map_map]
      congr 1; funext k; simp only [Function.comp_apply]; omega

/-- The scan takes a match at the first byte, or goes on behind it. -/
theorem firstMatch_cons (hdr : List Byte) (b : Byte) (w : List Byte) :
    firstMatch hdr (b :: w) = if hdr <+: b :: w then some 0 else (firstMatch hdr w).map (· + 1) := by
  simp only [← List.isPrefixOf_iff_prefix, ← firstMatchFrom_eq_map]
  rfl

theorem prefix_drop_of_firstMatch {hdr w : List Byte} {o : Nat} (h : firstMatch hdr w = some o) : hdr <+: w.drop o := by
  induction w generalizing o with
  | nil => cases h
  | cons b w ih =>
    rw [firstMatch_cons] at h
    split at h
    · cases h; assumption
    · obtain ⟨k, hk, rfl⟩ := Option.map_eq_some_iff.mp h
      exact ih hk

/-- A header that stands somewhere is found. -/
theorem firstMatch_ne_none {hdr w : List Byte} {o : Nat} (hne : hdr ≠ []) (h : hdr <+: w.drop o) :
    firstMatch hdr w ≠ none := by
  induction w generalizing o with
  | nil => exact absurd (List.prefix_nil.mp (by simpa using h)) hne
  | cons b w ih =>
    rw [firstMatch_cons]
    split
    · nofun
    · rename_i hfirst
      cases o with
      | zero => exact absurd h hfirst
      | succ o => simpa using ih h

theorem firstMatch_isSome_iff {hdr w : List Byte} (hne : hdr ≠ []) : (firstMatch hdr w).isSome ↔ ∃ o, hdr <+: w.drop o := by
  constructor
  · intro h
    obtain ⟨o, ho⟩ := Option.isSome_iff_exists.mp h
    exact ⟨o, prefix_drop_of_firstMatch ho⟩
  · rintro ⟨o, ho⟩
    exact Option.isSome_iff_ne_none.mpr (firstMatch_ne_none hne ho)

/-- Later bytes do not move a match. -/
theorem firstMatch_append {hdr w : List Byte} {o : Nat} (h : firstMatch hdr w = some o) (data : List Byte) :
    firstMatch hdr (w ++ data) = some o := by
  induction w generalizing o with
  | nil => cases h
  | cons b w ih =>
    rw [firstMatch_cons] at h
    rw [List.cons_append, firstMatch_cons]
    split at h
    · rename_i hfirst
      have hstill : hdr <+: b :: (w ++ data) := List.prefix_append_of_prefix (l₂ := b :: w) hfirst
      rw [if_pos hstill, h]
    · rename_i hfirst
      obtain ⟨k, hk, rfl⟩ := Option.map_eq_some_iff.mp h
      have hlen : hdr.length ≤ (b :: w).length := by
        have := (prefix_drop_of_firstMatch hk).length_le
        simp only [List.length_drop, List.length_cons] at this ⊢; omega
      have hstill : ¬ hdr <+: b :: (w ++ data) := fun hlater =>
        hfirst (List.prefix_of_prefix_length_le hlater (List.prefix_append (b :: w) data) hlen)
      rw [if_neg hstill, ih hk]; rfl

/-- The six bytes of the header stand at `o` when it begins the rest of the window. -/
theorem headerAt_iff_prefix_drop {hdr w : List Byte} (hlen : hdr.length = 6) (o : Nat) :
    HeaderAt hdr w o ↔ hdr <+: w.drop o := by
  rw [List.prefix_iff_getElem?]
  constructor
  · rintro ⟨_, hbytes⟩ i hi
    rw [List.getElem?_drop, hbytes i (hlen ▸ hi), List.getElem?_eq_getElem]
  · intro h
    have hbyte : ∀ i < 6, w[o + i]? = hdr[i]? := fun i hi => by
      rw [← List.getElem?_drop, h i (hlen.symm ▸ hi), List.getElem?_eq_getElem]
    refine ⟨?_, hbyte⟩
    have hlast := hbyte 5 (by omega)
    rw [List.getElem?_eq_getElem (l := hdr) (by omega)] at hlast
    obtain ⟨hlt, _⟩ := List.getElem?_eq_some_iff.mp hlast
    omega

theorem hdr_ne_nil (s : State) : s.hdr ≠ [] := by simp [State.hdr, wordBytes]

/-- A match lies inside the window. -/
theorem firstMatch_bound {s : State} {w : List Byte} {o : Nat} (h : firstMatch s.hdr w = some o) : o + 6 ≤ w.length := by
  have := (prefix_drop_of_firstMatch h).length_le
  simp only [hdr_length, Config.headerLen, List.length_drop] at this; omega

/-- The frame cut out at a match begins with the header (41_frame_sync.md R174). -/
theorem frameAddress_frameAt {s : State} {w : List Byte} {o : Nat} (h : firstMatch s.hdr w = some o) :
    frameAddress (frameAt w o) = s.hdr := by
  have := List.prefix_iff_eq_take.mp (prefix_drop_of_firstMatch h)
  rw [frameAddress, frameAt, List.take_take]
  exact this.symm

theorem frameAt_length {w : List Byte} {o : Nat} (h : Config.frameLen ≤ w.length - o) :
    (frameAt w o).length = Config.frameLen := by
  simp only [frameAt, List.length_take, List.length_drop]; omega

/-! ### The width of a row (30_encoding.md R122) -/

theorem samplesOf_length (bs : List Byte) : (samplesOf bs).length = bs.length / 4 := by
  induction bs using samplesOf.induct with
  | case1 b0 b1 b2 b3 rest ih => simp only [samplesOf, List.length_cons, ih]; omega
  | case2 bs h =>
    match bs, h with
    | [], _ | [_], _ | [_, _], _ | [_, _, _], _ => simp [samplesOf]
    | b0 :: b1 :: b2 :: b3 :: rest, h => exact (h b0 b1 b2 b3 rest rfl).elim

theorem bytesOfSamples_length (ws : List Word) : (bytesOfSamples ws).length = 4 * ws.length := by
  induction ws with
  | nil => rfl
  | cons w ws ih =>
    rw [show bytesOfSamples (w :: ws) = wordBytes w ++ bytesOfSamples ws from rfl, List.length_append, ih, wordBytes_length,
      List.length_cons]
    omega

/-- The bytes of a frame's row fill one slot (20_memory.md R82). -/
theorem row_length {f : List Byte} (h : f.length = Config.frameLen) :
    (bytesOfSamples (frameSamples f)).length = Config.slotBytes := by
  rw [bytesOfSamples_length, frameSamples, samplesOf_length, List.length_drop, h]; rfl

end Sys2Proof.Machine

namespace Sys2Proof.Machine

/-! ### Register words (10_state.md R36, R51, R52) -/

theorem toNat_append_eq_add {m n : Nat} (x : BitVec m) (y : BitVec n) : (x ++ y).toNat = x.toNat * 2 ^ n + y.toNat := by
  rw [BitVec.toNat_append, ← Nat.shiftLeft_add_eq_or_of_lt y.isLt, Nat.shiftLeft_eq]

/-- STATUS as the sum of its fields (10_state.md R52). -/
theorem statusWord_toNat (s : State) :
    (statusWord s).toNat =
      (phaseCode s.ph).toNat + 8 * (rotCode s.rot).toNat + 32 * (exitCodeBits s.exitCode).toNat + 256 * s.cancelReq.toNat +
        512 * s.cmdErr.toNat + 1024 * s.cfgErr.toNat + 2048 * s.fh.toNat + 4096 * (matchWait s).toNat := by
  simp only [statusWord, toNat_append_eq_add, BitVec.toNat_ofBool, BitVec.toNat_ofNat]
  omega

theorem getLsbD_eq_of_toNat {w : Word} {b : Bool} {i : Nat} (h : w.toNat / 2 ^ i % 2 = b.toNat) : w.getLsbD i = b := by
  rw [BitVec.getLsbD, Nat.testBit_eq_decide_div_mod_eq, h]
  cases b <;> rfl

theorem matchWait_iff (s : State) : matchWait s = true ↔ s.ph = .sync ∧ ∃ o, HeaderAt s.hdr s.window o := by
  simp only [matchWait, Bool.and_eq_true, decide_eq_true_eq, firstMatch_isSome_iff (hdr_ne_nil s),
    headerAt_iff_prefix_drop (hdr_length s)]

/-- Settles O21: each field of STATUS is read off the sum, since the fields below it are smaller than its place. -/
theorem statusFields : Obligations.StatusFields := by
  refine ⟨by decide, fun s => ?_⟩
  have hsum := statusWord_toNat s
  have hphase := (phaseCode s.ph).isLt
  have hrot := (rotCode s.rot).isLt
  have hexit := (exitCodeBits s.exitCode).isLt
  have hcancel := Bool.toNat_lt s.cancelReq
  have hcmd := Bool.toNat_lt s.cmdErr
  have hcfg := Bool.toNat_lt s.cfgErr
  have hheld := Bool.toNat_lt s.fh
  have hwait := Bool.toNat_lt (matchWait s)
  refine ⟨?_, ?_, ?_, getLsbD_eq_of_toNat (by omega), getLsbD_eq_of_toNat (by omega), getLsbD_eq_of_toNat (by omega),
    getLsbD_eq_of_toNat (by omega), ?_, by omega⟩
  · rw [show (statusWord s).toNat % 8 = (phaseCode s.ph).toNat by omega]
    cases s.ph <;> rfl
  · rw [show (statusWord s).toNat / 8 % 4 = (rotCode s.rot).toNat by omega]
    cases s.rot <;> rfl
  · rw [show (statusWord s).toNat / 32 % 8 = (exitCodeBits s.exitCode).toNat by omega]
    cases s.exitCode <;> rfl
  · rw [getLsbD_eq_of_toNat (b := matchWait s) (by omega), matchWait_iff]

/-! ### Configuration writes (10_state.md R36, R58) -/

theorem writeConfig_stopped {s : State} (h : Stopped s) (f : State → State) : writeConfig f s = f s := by
  simp [writeConfig, not_running_of_stopped h]

theorem writeConfig_inSession {s : State} (h : InSession s) (f : State → State) : writeConfig f s = illegalCommand s := by
  simp [writeConfig, (running_iff s).mpr h]

theorem extractLow_eq_ofNat (d : Word) : d.extractLsb' 0 16 = BitVec.ofNat 16 d.toNat := by
  apply BitVec.eq_of_toNat_eq; simp

/-- Settles O16: each of the five is `writeConfig`, which stores outside a session and sets CMD_ERR in one. -/
theorem configurationWrites : Obligations.ConfigurationWrites := by
  intro s d
  constructor
  · intro hs
    simp only [exec, execWrHdr0, execWrHdr1, execWrBudget, execWrSegBytes, execWrSegCount, writeConfig_stopped hs,
      extractLow_eq_ofNat, and_self]
  · intro hs i hi
    simp only [List.mem_cons, List.not_mem_nil, or_false] at hi
    rcases hi with rfl | rfl | rfl | rfl | rfl
    all_goals exact congrArg Host.Outcome.next (writeConfig_inSession hs _)

/-- HDR1 holds the low half of the word written: the first two of its four bytes (30_encoding.md R126). -/
theorem low_half_bytes (d : Word) :
    (d.extractLsb' 0 16).extractLsb' 0 8 = d.extractLsb' 0 8 ∧ (d.extractLsb' 0 16).extractLsb' 8 8 = d.extractLsb' 8 8 := by
  constructor
  · apply BitVec.eq_of_getLsbD_eq; intro i hi; simp [BitVec.getLsbD_extractLsb']
  · apply BitVec.eq_of_getLsbD_eq; intro i hi; simp [BitVec.getLsbD_extractLsb']

/-- Settles O17: the two writes are stored, and HDR reads the written words' bytes back. -/
theorem headerWrittenIsHeaderScanned : Obligations.HeaderWrittenIsHeaderScanned := by
  intro s b0 b1 b2 b3 b4 b5 hs
  refine ⟨_, _, congrArg Host.Outcome.next (writeConfig_stopped hs _),
    congrArg Host.Outcome.next (writeConfig_stopped (by exact hs) _), ?_, rfl⟩
  have hlow := wordBytes_le32 b4 b5 0#8 0#8
  simp only [wordBytes, List.cons.injEq] at hlow
  obtain ⟨h4, h5, _⟩ := hlow
  obtain ⟨hb4, hb5⟩ := low_half_bytes (le32 b4 b5 0#8 0#8)
  simp only [State.hdr, wordBytes_le32, hb4, hb5, h4, h5]
  rfl

/-! ### Reset (10_state.md R51, R56) -/

/-- Settles O46: the register values are computed, and no segment exists. -/
theorem resetRegisterValues : Obligations.ResetRegisterValues := by
  refine ⟨by decide, rfl, rfl, fun seg off n => ?_⟩
  simp [exec, execRead, reset_seg, Segment.absent]

end Sys2Proof.Machine

namespace Sys2Proof.Machine

/-! ### What changes in a step, for the invariants

`Effect` says every next state a transaction can answer. The invariants on the store, the window and the counters need fewer
cases: `Change` puts together the effects on flags alone, the configuration writes and the session ends. -/

/-- The fields that the invariants on the store, the window and the counters do not read. -/
structure Flags where
  cancelReq : Bool
  cmdErr : Bool
  cfgErr : Bool
  irqEn : Bool
  irqPend : Bool
  startWaiting : Bool
  reply : HostReply
  input : List Byte

/-- `s` with other flags. -/
def withFlags (f : Flags) (s : State) : State :=
  { s with cancelReq := f.cancelReq, cmdErr := f.cmdErr, cfgErr := f.cfgErr, irqEn := f.irqEn, irqPend := f.irqPend,
           startWaiting := f.startWaiting, reply := f.reply, input := f.input }

/-- `s` with another configuration. -/
def withConfig (hdr0 : Word) (hdr1 : BitVec 16) (budget segBytes segCount : Word) (s : State) : State :=
  { s with hdr0 := hdr0, hdr1 := hdr1, budget := budget, segBytes := segBytes, segCount := segCount }

/-- The next states of a transaction, the flags but for themselves left out. -/
inductive Change (s : State) : State → Prop where
  | flags (f : Flags) : Change s (withFlags f s)
  | configured (h0 : Word) (h1 : BitVec 16) (b g n : Word) (hr : s.running = false) : Change s (withConfig h0 h1 b g n s)
  | started (b : StorageAnswer) (hr : s.running = false) (hc : s.configLegal = true) : Change s (startSession b s)
  | softReset : Change s (softReset s)
  | hardReset : Change s (hardReset s)
  | synced (data : List Byte) (hp : s.ph = .sync) (hn : data.length ≤ s.readMax) : Change s (syncStep data s)
  | linkFailed (hp : s.ph = .sync) : Change s (fatal .linkFailure s)
  | terminated (hp : s.ph = .rotate) (ho : s.rotationOpens = false) :
      Change s { releaseFull s with rot := .terminated, ph := .check }
  | rotated (b : StorageAnswer) (hp : s.ph = .rotate) (ho : s.rotationOpens = true)
      (hi : (s.segIndex + 1#32).toNat < s.segCountMax) :
      Change s (openSegment (s.segIndex + 1#32).toNat b toCheck (releaseFull s))
  | ended (code : ExitCode) (hp : s.ph = .check) : Change s (endSession code s)
  | linkRead (hp : s.ph = .check) (hb : s.sw < s.budget) (ht : s.rot ≠ .terminated) : Change s { s with ph := .sync }
  | delivered (hp : s.ph = .deliver) : Change s (deliver s)

/-- The flags of `s` itself. -/
def State.flags (s : State) : Flags :=
  ⟨s.cancelReq, s.cmdErr, s.cfgErr, s.irqEn, s.irqPend, s.startWaiting, s.reply, s.input⟩

theorem Effect.change {s t : State} (e : Effect s t) : Change s t := by
  cases e with
  | same => exact .flags s.flags
  | illegal => exact .flags { s.flags with cmdErr := true }
  | startAsked _ _ => exact .flags { s.flags with startWaiting := true }
  | configRefused _ => exact .flags { s.flags with cfgErr := true, startWaiting := false }
  | started b hr hc => exact .started b hr hc
  | cancelled _ => exact .flags { s.flags with cancelReq := true }
  | cleared => exact .flags { s.flags with cmdErr := false, cfgErr := false }
  | softReset => exact .softReset
  | hardReset => exact .hardReset
  | synced data hp hn => exact .synced data hp hn
  | linkFailed hp => exact .linkFailed hp
  | terminated hp ho => exact .terminated hp ho
  | rotated b hp ho hi => exact .rotated b hp ho hi
  | hdr0Written d hr => exact .configured d s.hdr1 s.budget s.segBytes s.segCount hr
  | hdr1Written d hr => exact .configured s.hdr0 d s.budget s.segBytes s.segCount hr
  | budgetWritten d hr => exact .configured s.hdr0 s.hdr1 d s.segBytes s.segCount hr
  | segBytesWritten d hr => exact .configured s.hdr0 s.hdr1 s.budget d s.segCount hr
  | segCountWritten d hr => exact .configured s.hdr0 s.hdr1 s.budget s.segBytes d hr
  | irqWritten d => exact .flags { s.flags with irqEn := (writeIrq d s).irqEn, irqPend := (writeIrq d s).irqPend }
  | replied r => exact .flags { s.flags with reply := r }
  | budgetReached hp _ => exact .ended _ hp
  | capacityExhausted hp _ _ => exact .ended _ hp
  | cancelTaken hp _ _ _ => exact .ended _ hp
  | linkRead hp hb ht _ => exact .linkRead hp hb ht
  | delivered hp _ => exact .delivered hp

/-- A step is a change from the state with the transaction taken off the input. -/
theorem step_change {s t : State} (h : step s = .next t) : ∃ rest, Change { s with input := rest } t :=
  (step_effect h).imp fun _ e => e.change

/-! ### The shape of the store (10_state.md R49) -/

theorem storeShape_congr {s t : State} (h : StoreShape s) (hsegs : t.segs = s.segs) (hmax : t.segCountMax = s.segCountMax) :
    StoreShape t := by
  rw [StoreShape, hsegs, hmax]; exact h

theorem wf_seg {s : State} (h : StoreShape s) (i : Nat) : Memory.wf (s.seg i).bytes := by
  rw [State.seg, List.getD_eq_getElem?_getD]
  cases hi : s.segs[i]? with
  | none => decide
  | some g => exact h.2 g (List.mem_of_getElem? hi)

theorem storeShape_setSeg {s : State} (h : StoreShape s) (i : Nat) {g : Segment} (hg : Memory.wf g.bytes) :
    StoreShape (setSeg i g s) := by
  refine ⟨(segs_length_setSeg i g s).trans h.1, fun x hx => ?_⟩
  rcases List.mem_or_eq_of_mem_set hx with hx | rfl
  · exact h.2 x hx
  · exact hg

/-- Clearing bits of every entry leaves the bytes. -/
theorem storeShape_map {s t : State} {f : Segment → Segment} (h : StoreShape s) (hsegs : t.segs = s.segs.map f)
    (hmax : t.segCountMax = s.segCountMax) (hf : ∀ g, (f g).bytes = g.bytes) : StoreShape t := by
  rw [StoreShape, hsegs, hmax, List.length_map]
  refine ⟨h.1, fun x hx => ?_⟩
  obtain ⟨g, hg, rfl⟩ := List.mem_map.mp hx
  exact hf g ▸ h.2 g hg

theorem storeShape_storeRelease {s : State} (h : StoreShape s) (i : Nat) : StoreShape (storeRelease i s) :=
  storeShape_setSeg h i (wf_seg h i)

theorem storeShape_fatal {s : State} (h : StoreShape s) (code : ExitCode) : StoreShape (fatal code s) :=
  storeShape_map h (fatal_segs code s) rfl fun _ => rfl

theorem storeShape_openSegment {s : State} (h : StoreShape s) (i : Nat) (b : StorageAnswer) :
    StoreShape (openSegment i b toCheck s) := by
  cases b with
  | ok => exact storeShape_setSeg h i (Memory.wf_zeroFill (wf_seg h i) _)
  | fail => exact storeShape_fatal (storeShape_setSeg h i (g := { s.seg i with present := false }) (wf_seg h i)) _

theorem storeShape_append {s : State} (h : StoreShape s) : StoreShape (append s) := by
  by_cases ho : s.rot = .segmentOpen
  · rw [append_of_open ho]
    exact storeShape_setSeg h _ (Memory.wf_write (wf_seg h _) _ _)
  · rwa [append_rejected ho]

theorem storeShape_endSession {s : State} (h : StoreShape s) (code : ExitCode) : StoreShape (endSession code s) := by
  unfold endSession
  split
  · exact storeShape_storeRelease h s.segIndex.toNat
  · exact h

theorem storeShape_change {s t : State} (h : StoreShape s) (c : Change s t) : StoreShape t := by
  cases c with
  | flags f => exact h
  | configured h0 h1 b g n _ => exact h
  | started b _ _ => exact storeShape_openSegment (s := initSession s) h 0 b
  | softReset => exact storeShape_map h (softReset_segs s) rfl fun _ => rfl
  | hardReset => exact storeShape_map h (hardReset_segs s) rfl fun _ => rfl
  | synced data _ _ => exact storeShape_congr h (syncStep_segs data s) (syncStep_segCountMax data s)
  | linkFailed _ => exact storeShape_fatal h _
  | terminated _ _ => exact storeShape_storeRelease h s.segIndex.toNat
  | rotated b _ _ _ => exact storeShape_openSegment (s := releaseFull s) (storeShape_storeRelease h s.segIndex.toNat) _ b
  | ended code _ => exact storeShape_endSession h code
  | linkRead _ _ _ => exact h
  | delivered _ =>
    exact storeShape_congr (storeShape_append (s := decodeFrame s) h) (deliver_segs s) (by simp)

/-- Settles O52: every operation that replaces an entry of the store puts bytes in the canonical form there. -/
theorem storeShapeKept : Obligations.StoreShapeKept := by
  intro s t h hstep
  obtain ⟨rest, c⟩ := step_change hstep
  exact storeShape_change (s := { s with input := rest }) h c

/-! ### The phase invariant (10_state.md R31, R34, R41, R45, R46)

One lemma for each phase says what the other fields must be there. -/

theorem phaseInv_idle {s : State} (hp : s.ph = .idle) (hf : s.fh = false) (hr : s.rot = .noSegment) (he : s.exitCode = .none)
    (hc : s.cancelReq = false) : PhaseInv s := by
  constructor <;> simp [State.running, Phase.running, hp, hf, hr, he, hc]

theorem phaseInv_check {s : State} (hp : s.ph = .check) (hf : s.fh = false) (hr : s.rot = .segmentOpen ∨ s.rot = .terminated)
    (he : s.exitCode = .none) (hw : s.startWaiting = false) : PhaseInv s := by
  rcases hr with hr | hr <;> constructor <;> simp [State.running, Phase.running, hp, hf, hr, he, hw]

theorem phaseInv_sync {s : State} (hp : s.ph = .sync) (hf : s.fh = false) (hr : s.rot = .segmentOpen)
    (he : s.exitCode = .none) (hw : s.startWaiting = false) : PhaseInv s := by
  constructor <;> simp [State.running, Phase.running, hp, hf, hr, he, hw]

theorem phaseInv_deliver {s : State} (hp : s.ph = .deliver) (hf : s.fh = true) (hr : s.rot = .segmentOpen)
    (he : s.exitCode = .none) (hw : s.startWaiting = false) : PhaseInv s := by
  constructor <;> simp [State.running, Phase.running, hp, hf, hr, he, hw]

theorem phaseInv_rotate {s : State} (hp : s.ph = .rotate) (hf : s.fh = false) (hr : s.rot = .segmentFull)
    (he : s.exitCode = .none) (hw : s.startWaiting = false) : PhaseInv s := by
  constructor <;> simp [State.running, Phase.running, hp, hf, hr, he, hw]

theorem phaseInv_done {s : State} (hp : s.ph = .done) (hf : s.fh = false) (hr : s.rot = .noSegment ∨ s.rot = .terminated)
    (he : s.exitCode = .budgetReached ∨ s.exitCode = .capacityExhausted ∨ s.exitCode = .cancelled)
    (hc : s.cancelReq = false) : PhaseInv s := by
  rcases hr with hr | hr <;> rcases he with he | he | he <;> constructor <;>
    simp [State.running, Phase.running, hp, hf, hr, he, hc]

theorem phaseInv_fault {s : State} (hp : s.ph = .fault) (hf : s.fh = false) (hr : s.rot = .noSegment)
    (he : s.exitCode = .linkFailure ∨ s.exitCode = .storageAllocFailure) (hc : s.cancelReq = false) : PhaseInv s := by
  rcases he with he | he <;> constructor <;> simp [State.running, Phase.running, hp, hf, hr, he, hc]

/-! What the invariant says of a state, by its phase. -/

theorem PhaseInv.not_held {s : State} (h : PhaseInv s) (hp : s.ph ≠ .deliver) : s.fh = false :=
  Bool.eq_false_iff.mpr fun hf => hp (h.held_iff.mp hf)

theorem PhaseInv.of_running {s : State} (h : PhaseInv s) (hr : s.running = true) :
    s.exitCode = .none ∧ s.startWaiting = false := by
  refine ⟨h.exit_none_iff.mpr ?_, Bool.eq_false_iff.mpr fun hw => by simp [h.waiting_idle hw] at hr⟩
  rcases (running_iff s).mp hr with hp | hp | hp | hp <;> simp [hp]

theorem PhaseInv.unmapped_of_stopped {s : State} (h : PhaseInv s) (hr : s.running = false) :
    s.rot = .noSegment ∨ s.rot = .terminated := by
  cases hp : s.ph with
  | idle => exact .inl (h.rot_of_idle (.inl hp))
  | done => exact h.rot_of_done hp
  | fault => exact .inl (h.rot_of_idle (.inr hp))
  | _ => simp [State.running, Phase.running, hp] at hr

theorem phaseInv_fatal {s : State} {code : ExitCode} (hcode : code = .linkFailure ∨ code = .storageAllocFailure) :
    PhaseInv (fatal code s) := phaseInv_fault rfl rfl rfl hcode rfl

/-- After the answer to an open the session goes on in CHECK, or is over in FAULT. -/
theorem phaseInv_openSegment {s : State} (i : Nat) (b : StorageAnswer) (hf : s.fh = false) (he : s.exitCode = .none)
    (hw : s.startWaiting = false) : PhaseInv (openSegment i b toCheck s) := by
  cases b with
  | ok => exact phaseInv_check rfl hf (.inl rfl) he hw
  | fail => exact phaseInv_fatal (.inr rfl)

theorem phaseInv_endSession {s : State} {code : ExitCode} (h : PhaseInv s) (hp : s.ph = .check)
    (hcode : code = .budgetReached ∨ code = .capacityExhausted ∨ code = .cancelled) : PhaseInv (endSession code s) := by
  refine phaseInv_done (endSession_ph code s) ?_ ?_ (by simpa using hcode) (by simp)
  · rw [endSession_fh]; exact h.not_held (by simp [hp])
  · unfold endSession
    rcases h.rot_of_check hp with hr | hr <;> simp [hr]

theorem phaseInv_syncStep {s : State} (h : PhaseInv s) (hp : s.ph = .sync) (data : List Byte) : PhaseInv (syncStep data s) := by
  rcases syncStep_cases data s with ⟨_, hs⟩ | ⟨_, _, _, hs⟩ | ⟨_, _, _, hs⟩ <;> rw [hs]
  · exact { h with }
  · exact { h with }
  · obtain ⟨he, hw⟩ := h.of_running (running_of_inSession (.inr (.inl hp)))
    exact phaseInv_deliver rfl rfl (h.open_of_sync (.inl hp)) he hw

theorem append_rot_of_open {s : State} (h : s.rot = .segmentOpen) :
    (append s).rot = if s.cursor + 1#32 = s.slots then .segmentFull else .segmentOpen := by
  rw [append_of_open h]

theorem phaseInv_deliverStep {s : State} (h : PhaseInv s) (hp : s.ph = .deliver) : PhaseInv (deliver s) := by
  obtain ⟨he, hw⟩ := h.of_running (running_of_inSession (.inr (.inr (.inl hp))))
  have hrot := append_rot_of_open (s := decodeFrame s) (h.open_of_sync (.inr hp))
  by_cases hlast : s.cursor + 1#32 = s.slots
  · have hfull : (append (decodeFrame s)).rot = .segmentFull := hrot.trans (if_pos hlast)
    exact phaseInv_rotate (by simp [hfull]) (by simp) (by simp [hfull]) (by simpa using he) (by simpa using hw)
  · have hopen : (append (decodeFrame s)).rot = .segmentOpen := hrot.trans (if_neg hlast)
    exact phaseInv_check (by simp [hopen]) (by simp) (by simp [hopen]) (by simpa using he) (by simpa using hw)

theorem phaseInv_effect {s t : State} (h : PhaseInv s) (e : Effect s t) : PhaseInv t := by
  cases e with
  | startAsked hr _ => exact { h with waiting_idle := fun _ => hr }
  | configRefused _ => exact { h with waiting_idle := nofun }
  | started b _ _ => exact phaseInv_openSegment (s := initSession s) 0 b rfl rfl rfl
  | cancelled hr => exact { h with cancel_running := fun _ => hr }
  | softReset => exact phaseInv_idle rfl rfl rfl rfl rfl
  | hardReset => exact phaseInv_idle rfl rfl rfl rfl rfl
  | synced data hp _ => exact phaseInv_syncStep h hp data
  | linkFailed _ => exact phaseInv_fatal (.inl rfl)
  | terminated hp _ =>
    obtain ⟨he, hw⟩ := h.of_running (running_of_inSession (.inr (.inr (.inr hp))))
    exact phaseInv_check rfl (h.not_held (by simp [hp])) (.inr rfl) he hw
  | rotated b hp _ _ =>
    obtain ⟨he, hw⟩ := h.of_running (running_of_inSession (.inr (.inr (.inr hp))))
    exact phaseInv_openSegment (s := releaseFull s) _ b (h.not_held (by simp [hp])) he hw
  | budgetReached hp _ => exact phaseInv_endSession h hp (.inl rfl)
  | capacityExhausted hp _ _ => exact phaseInv_endSession h hp (.inr (.inl rfl))
  | cancelTaken hp _ _ _ => exact phaseInv_endSession h hp (.inr (.inr rfl))
  | linkRead hp _ ht _ =>
    obtain ⟨he, hw⟩ := h.of_running (running_of_inSession (.inl hp))
    exact phaseInv_sync rfl (h.not_held (by simp [hp])) ((h.rot_of_check hp).resolve_right ht) he hw
  | delivered hp _ => exact phaseInv_deliverStep h hp
  | _ => exact { h with }

/-- Settles O53: the effect of the step leads to a phase whose row of the invariant its other fields meet. -/
theorem phaseInvariantKept : Obligations.PhaseInvariantKept := by
  intro s t h hstep
  obtain ⟨rest, e⟩ := step_effect hstep
  exact phaseInv_effect (s := { s with input := rest }) { h with } e

/-! ### The window invariant (41_frame_sync.md R178) -/

theorem paramLegal_congr {s t : State} (h : ParamLegal s) (hparam : t.param = s.param) : ParamLegal t := by
  rw [ParamLegal, readMax_congr hparam, keep_congr hparam]; exact h

theorem keep_le_wcap {s : State} (h : ParamLegal s) : s.keep ≤ s.wcap := by
  obtain ⟨hread, _⟩ := h
  simp only [State.wcap, Config.frameLen]; omega

/-- A kept tail meets the window invariant in every phase. -/
theorem windowInv_of_kept {s : State} (hparam : ParamLegal s) (hkept : s.window.length ≤ s.keep) : WindowInv s :=
  ⟨hparam, hkept.trans (keep_le_wcap hparam), fun _ => hkept, fun _ => .inl hkept⟩

/-- Outside a session only the bound is asked. -/
theorem windowInv_of_stopped {s : State} (hparam : ParamLegal s) (hbound : s.window.length ≤ s.wcap)
    (hr : s.running = false) : WindowInv s := by
  have hnot : ¬ InSession s := fun hs => by simp [(running_iff s).mpr hs] at hr
  refine ⟨hparam, hbound, fun hp => absurd ?_ hnot, fun hp => absurd (.inr (.inl hp)) hnot⟩
  rcases hp with hp | hp | hp <;> simp [InSession, hp]

/-- The wait for a whole frame keeps the match where it was: the window's growth is bounded (41_frame_sync.md R173, R177). -/
theorem windowInv_wait {s : State} (h : WindowInv s) (hp : s.ph = .sync) {data : List Byte} (hn : data.length ≤ s.readMax)
    {o : Nat} (hm : firstMatch s.hdr (s.window ++ data) = some o) (hshort : (s.window ++ data).length - o < Config.frameLen) :
    WindowInv { s with window := s.window ++ data } := by
  obtain ⟨hread, _⟩ := h.params
  have hplace : o + 6 ≤ s.keep + s.readMax := by
    rcases h.syncForm hp with hkept | ⟨o', ho', _, hplace⟩
    · have := firstMatch_bound hm
      rw [List.length_append] at this; omega
    · cases (firstMatch_append ho' data).symm.trans hm
      exact hplace
  refine ⟨h.params, ?_, fun hp' => ?_, fun _ => .inr ⟨o, hm, hshort, hplace⟩⟩
  · show (s.window ++ data).length ≤ s.keep + Config.frameLen + 2 * s.readMax - 7
    simp only [Config.frameLen] at hshort ⊢; omega
  · simp [hp] at hp'

theorem windowInv_syncStep {s : State} (h : WindowInv s) (hp : s.ph = .sync) {data : List Byte}
    (hn : data.length ≤ s.readMax) : WindowInv (syncStep data s) := by
  have htail := (tailBytes_length s.keep (s.window ++ data)).trans_le (Nat.min_le_left ..)
  rcases syncStep_cases data s with ⟨_, hs⟩ | ⟨o, hm, hshort, hs⟩ | ⟨_, _, _, hs⟩ <;> rw [hs]
  · exact windowInv_of_kept h.params htail
  · exact windowInv_wait h hp hn hm hshort
  · exact windowInv_of_kept h.params htail

/-- A step that leaves W and PARAM as they are, taken between SYNC waits. -/
theorem windowInv_of_same {s t : State} (h : WindowInv s) (hp : s.ph = .check ∨ s.ph = .deliver ∨ s.ph = .rotate)
    (hwindow : t.window = s.window) (hparam : t.param = s.param) : WindowInv t :=
  windowInv_of_kept (paramLegal_congr h.params hparam) (by rw [hwindow, keep_congr hparam]; exact h.kept hp)

theorem openSegment_window (i : Nat) (b : StorageAnswer) (s : State) : (openSegment i b toCheck s).window = s.window := by
  cases b <;> rfl

theorem openSegment_param (i : Nat) (b : StorageAnswer) (s : State) : (openSegment i b toCheck s).param = s.param := by
  cases b <;> rfl

theorem windowInv_change {s t : State} (h : WindowInv s) (c : Change s t) : WindowInv t := by
  cases c with
  | flags f => exact { h with }
  | configured h0 h1 b g n hr => exact windowInv_of_stopped h.params h.bounded hr
  | started b _ _ =>
    refine windowInv_of_kept (paramLegal_congr h.params (openSegment_param 0 b (initSession s))) ?_
    rw [startSession, openSegment_window, initSession_window]; exact Nat.zero_le _
  | softReset => exact windowInv_of_kept h.params (Nat.zero_le _)
  | hardReset => exact windowInv_of_kept h.params (Nat.zero_le _)
  | synced data hp hn => exact windowInv_syncStep h hp hn
  | linkFailed _ => exact windowInv_of_stopped h.params h.bounded rfl
  | terminated hp _ => exact windowInv_of_same h (.inr (.inr hp)) rfl rfl
  | rotated b hp _ _ => exact windowInv_of_same h (.inr (.inr hp)) (openSegment_window ..) (openSegment_param ..)
  | ended code hp => exact windowInv_of_same h (.inl hp) (endSession_window code s) (endSession_param code s)
  | linkRead hp _ _ => exact windowInv_of_same h (.inl hp) rfl rfl
  | delivered hp => exact windowInv_of_same h (.inr (.inl hp)) (deliver_window s) (deliver_param s)

end Sys2Proof.Machine

namespace Sys2Proof.Machine

/-! ### The numbers of a session (10_state.md R38 to R44) -/

theorem slots_toNat (b : Word) : (b / 512#32).toNat = b.toNat / 512 := by simp

/-- CAPACITY is the product without overflow, since the largest one fits its register (10_state.md R40; log entry 15). -/
theorem capacity_toNat {s : State} (hfits : CapacityFits s) (hlegal : s.configLegal = true) :
    (s.segCount * (s.segBytes / 512#32)).toNat = s.segCount.toNat * (s.segBytes.toNat / 512) := by
  obtain ⟨_, hbytes, _, _, hcount⟩ := (configLegal_iff s).mp hlegal
  rw [BitVec.toNat_mul, slots_toNat]
  exact Nat.mod_eq_of_lt ((Nat.mul_le_mul hcount (Nat.div_le_div_right hbytes)).trans_lt hfits)

/-- SLOTS and CAPACITY are those computed from a legal configuration (10_state.md R40). -/
def Latched (s : State) : Prop :=
  s.configLegal = true ∧ s.slots = s.segBytes / 512#32 ∧ s.capacity = s.segCount * s.slots

/-- Then a segment has at least one slot, its slots fill it, and CAPACITY is the number of all slots. -/
theorem latched_numbers {s : State} (hfits : CapacityFits s) (h : Latched s) :
    1 ≤ s.slots.toNat ∧ 512 * s.slots.toNat = s.segBytes.toNat ∧ 1 ≤ s.segCount.toNat ∧ s.segCount.toNat ≤ s.segCountMax ∧
      s.capacity.toNat = s.segCount.toNat * s.slots.toNat := by
  obtain ⟨hlegal, hslots, hcapacity⟩ := h
  obtain ⟨hmin, _, hmod, hone, hcount⟩ := (configLegal_iff s).mp hlegal
  have hcap := capacity_toNat hfits hlegal
  have hdiv : s.slots.toNat = s.segBytes.toNat / 512 := by rw [hslots, slots_toNat]
  rw [← hslots, ← hcapacity, ← hdiv] at hcap
  exact ⟨by omega, by omega, hone, hcount, hcap⟩

theorem toNat_add_one_of_lt {a b : Word} (h : a.toNat < b.toNat) : (a + 1#32).toNat = a.toNat + 1 := by
  have := b.isLt
  simp only [BitVec.toNat_add, BitVec.toNat_ofNat]; omega

theorem toNat_add_one_lt_of_ne {a b : Word} (h : a + 1#32 ≠ b) (hlt : a.toNat < b.toNat) : (a + 1#32).toNat < b.toNat := by
  have hne : (a + 1#32).toNat ≠ b.toNat := fun he => h (BitVec.eq_of_toNat_eq he)
  have := toNat_add_one_of_lt hlt
  omega

theorem lt_length_of_present {s : State} {i : Nat} (h : (s.seg i).present = true) : i < s.segs.length := by
  by_contra hi
  rw [State.seg, List.getD_eq_getElem?_getD, List.getElem?_eq_none (Nat.not_lt.mp hi)] at h
  cases h

theorem SessionInv.cursor_ne_slots {s : State} (h : SessionInv s) (ho : s.rot = .segmentOpen) : s.cursor ≠ s.slots :=
  fun he => absurd (h.cursor_open ho) (by rw [he]; exact Nat.lt_irrefl _)

/-- With no segment mapped none is active (10_state.md R49). -/
theorem SessionInv.none_active {s : State} (h : SessionInv s) (hr : s.rot = .noSegment ∨ s.rot = .terminated) (i : Nat) :
    (s.seg i).active = false := by
  refine Bool.eq_false_iff.mpr fun ha => ?_
  obtain ⟨hm, _⟩ := (h.active_iff i).mp ha
  rcases hr with hr | hr <;> simp [hr] at hm

/-- Only the mapped segment is active, so with it released none is. -/
theorem SessionInv.none_active_released {s : State} (h : SessionInv s) (i : Nat) :
    ((storeRelease s.segIndex.toNat s).seg i).active = false := by
  rw [seg_storeRelease]
  split
  · rfl
  · rename_i hne
    refine Bool.eq_false_iff.mpr fun ha => ?_
    obtain ⟨hm, hi⟩ := (h.active_iff i).mp ha
    exact hne ⟨hi, lt_length_of_present (h.mapped hm).1⟩

/-! ### The session invariant, change by change -/

/-- Outside a session with no segment mapped, little is asked. -/
theorem sessionInv_unmapped {s : State} (hrun : s.running = false) (hrot : s.rot = .noSegment) (hheld : s.fh = false)
    (hactive : ∀ i, (s.seg i).active = false) (hcursor : s.cursor.toNat ≤ s.slots.toNat)
    (hindex : s.segIndex.toNat ≤ s.segCountMax) (hsw : s.sw.toNat ≤ s.capacity.toNat)
    (hframe : s.frame.length = Config.frameLen)
    (hpacket : s.pkAddr.length = Config.headerLen ∧ s.pkSample.length = Config.samplesPerRow) : SessionInv s where
  config := by simp [hrun]
  active_iff := by simp [hactive, hrot]
  mapped := by simp [hrot]
  cursor_open := by simp [hrot]
  cursor_full := by simp [hrot]
  count := by simp [hrot]
  terminated := by simp [hrot]
  cursor_le := hcursor
  index_le := hindex
  sw_le_capacity := hsw
  sw_le_budget := by simp [hrun]
  sw_lt_budget := fun hp => by rcases hp with hp | hp <;> simp [State.running, Phase.running, hp] at hrun
  unwritten := by simp [hrot]
  frame_length := hframe
  packet_length := hpacket
  frame_header := by simp [hheld]

theorem seg_inactive_of_map {s t : State} (hsegs : t.segs = s.segs.map fun g => { g with active := false }) (i : Nat) :
    (t.seg i).active = false := by
  rw [seg_congr (s := releaseActive s) hsegs, seg_releaseActive]

/-- The fatal path keeps the counts (60_exceptions.md R316). -/
theorem sessionInv_fatal {s : State} (code : ExitCode) (hcursor : s.cursor.toNat ≤ s.slots.toNat)
    (hindex : s.segIndex.toNat ≤ s.segCountMax) (hsw : s.sw.toNat ≤ s.capacity.toNat)
    (hpacket : s.pkAddr.length = Config.headerLen ∧ s.pkSample.length = Config.samplesPerRow) : SessionInv (fatal code s) :=
  sessionInv_unmapped rfl rfl rfl (seg_inactive_of_map (fatal_segs code s)) hcursor hindex hsw (by simp) hpacket

theorem sessionInv_softReset {s : State} (h : SessionInv s) : SessionInv (softReset s) :=
  sessionInv_unmapped rfl rfl rfl (seg_inactive_of_map (softReset_segs s)) (Nat.zero_le _) (Nat.zero_le _) (Nat.zero_le _)
    (by simp) h.packet_length

theorem hardReset_seg_active (s : State) (i : Nat) : ((hardReset s).seg i).active = false := by
  rw [State.seg, hardReset_segs, List.getD_eq_getElem?_getD, List.getElem?_map]
  cases s.segs[i]? <;> rfl

theorem sessionInv_hardReset (s : State) : SessionInv (hardReset s) :=
  sessionInv_unmapped rfl rfl rfl (hardReset_seg_active s) (Nat.zero_le _) (Nat.zero_le _) (Nat.zero_le _) (by simp) (by simp)

/-- A configuration write happens outside a session, where no segment is mapped and no frame is held. -/
theorem sessionInv_withConfig {s : State} (h : SessionInv s) (hphase : PhaseInv s) (hr : s.running = false) (h0 : Word)
    (h1 : BitVec 16) (b g n : Word) : SessionInv (withConfig h0 h1 b g n s) := by
  have hheld : s.fh = false := hphase.not_held fun hp => by simp [State.running, Phase.running, hp] at hr
  have hnone : ¬ (s.rot = .segmentOpen ∨ s.rot = .segmentFull) := by
    rcases hphase.unmapped_of_stopped hr with hrot | hrot <;> simp [hrot]
  have hstopped : (withConfig h0 h1 b g n s).running = false := hr
  exact { h with
    config := by simp [hstopped]
    mapped := fun hm => absurd hm hnone
    terminated := fun ht => ⟨(h.terminated ht).1, (h.terminated ht).2.1, by simp [hstopped]⟩
    sw_le_budget := by simp [hstopped]
    sw_lt_budget := fun hp => by
      have hp : s.ph = .sync ∨ s.ph = .deliver := hp
      rcases hp with hp | hp <;> simp [State.running, Phase.running, hp] at hr
    unwritten := fun ho => absurd (.inl ho) hnone
    frame_header := fun hf => by cases hheld.symm.trans hf }

/-- A SYNC step that emits holds a frame that begins with the header; every other one changes W alone. -/
theorem sessionInv_syncStep {s : State} (h : SessionInv s) (hp : s.ph = .sync) (data : List Byte) :
    SessionInv (syncStep data s) := by
  rcases syncStep_cases data s with ⟨_, hs⟩ | ⟨_, _, _, hs⟩ | ⟨o, hm, hlen, hs⟩ <;> rw [hs]
  · exact { h with }
  · exact { h with }
  · have hr : s.running = true := running_of_inSession (.inr (.inl hp))
    exact { h with
      config := fun _ => h.config hr
      terminated := fun ht => ⟨(h.terminated ht).1, (h.terminated ht).2.1, fun _ => (h.terminated ht).2.2 hr⟩
      sw_le_budget := fun _ => h.sw_le_budget hr
      sw_lt_budget := fun _ => h.sw_lt_budget (.inl hp)
      frame_length := frameAt_length hlen
      frame_header := fun _ => frameAddress_frameAt hm }

/-- The link read of CHECK begins an iteration that has room in the budget (44_acquisition_loop.md R250). -/
theorem sessionInv_linkRead {s : State} (h : SessionInv s) (hp : s.ph = .check) (hb : s.sw < s.budget) :
    SessionInv { s with ph := .sync } := by
  have hr : s.running = true := running_of_inSession (.inl hp)
  exact { h with
    config := fun _ => h.config hr
    terminated := fun ht => ⟨(h.terminated ht).1, (h.terminated ht).2.1, fun _ => (h.terminated ht).2.2 hr⟩
    sw_le_budget := fun _ => h.sw_le_budget hr
    sw_lt_budget := fun _ => hb }

theorem sessionInv_endSession {s : State} (h : SessionInv s) (hphase : PhaseInv s) (hp : s.ph = .check) (code : ExitCode) :
    SessionInv (endSession code s) := by
  have hheld : s.fh = false := hphase.not_held (by simp [hp])
  unfold endSession
  rcases hphase.rot_of_check hp with ho | ht
  · rw [if_pos ho]
    exact sessionInv_unmapped rfl rfl hheld h.none_active_released h.cursor_le h.index_le h.sw_le_capacity h.frame_length
      h.packet_length
  · rw [if_neg (by simp [ht])]
    exact { h with
      config := nofun
      terminated := fun ht => ⟨(h.terminated ht).1, (h.terminated ht).2.1, nofun⟩
      sw_le_budget := nofun
      sw_lt_budget := fun hp => by rcases hp with hp | hp <;> cases hp }

/-! Opening a segment: START and ROTATE. -/

/-- What START and ROTATE have made of the state when segment seg_index is to be opened: nothing is mapped, and the rows counted
fill the segments before it. -/
structure ReadyToOpen (s : State) : Prop where
  latched : Latched s
  none_active : ∀ i, (s.seg i).active = false
  index_lt : s.segIndex.toNat < s.segCount.toNat
  store : s.segs.length = s.segCountMax
  cursor_le : s.cursor.toNat ≤ s.slots.toNat
  sw_eq : s.sw.toNat = s.segIndex.toNat * s.slots.toNat
  sw_le_budget : s.sw.toNat ≤ s.budget.toNat
  held : s.fh = false
  frame_length : s.frame.length = Config.frameLen
  packet_length : s.pkAddr.length = Config.headerLen ∧ s.pkSample.length = Config.samplesPerRow

theorem ReadyToOpen.sw_le_capacity {s : State} (h : ReadyToOpen s) (hfits : CapacityFits s) :
    s.sw.toNat ≤ s.capacity.toNat := by
  obtain ⟨_, _, _, _, hcap⟩ := latched_numbers hfits h.latched
  rw [h.sw_eq, hcap]
  exact Nat.mul_le_mul_right _ h.index_lt.le

theorem ReadyToOpen.index_lt_length {s : State} (h : ReadyToOpen s) (hfits : CapacityFits s) :
    s.segIndex.toNat < s.segs.length := by
  obtain ⟨_, _, _, hmax, _⟩ := latched_numbers hfits h.latched
  rw [h.store]; exact h.index_lt.trans_le hmax

theorem openSegment_ok_seg (i j : Nat) (s : State) :
    (openSegment i .ok toCheck s).seg j =
      if j = i ∧ i < s.segs.length then
        { present := true, active := true, len := s.segBytes, bytes := (s.seg i).bytes.zeroFill s.segBytes.toNat }
      else s.seg j := seg_storeOpen i j s

theorem sessionInv_opened {s : State} (hfits : CapacityFits s) (h : ReadyToOpen s) :
    SessionInv (openSegment s.segIndex.toNat .ok toCheck s) := by
  obtain ⟨hslots, _, _, hmax, _⟩ := latched_numbers hfits h.latched
  have hopened := (openSegment_ok_seg s.segIndex.toNat s.segIndex.toNat s).trans
    (if_pos ⟨rfl, h.index_lt_length hfits⟩)
  have hrot : (openSegment s.segIndex.toNat .ok toCheck s).rot = .segmentOpen := rfl
  exact {
    config := fun _ => h.latched
    active_iff := fun j => by
      by_cases hj : j = s.segIndex.toNat
      · rw [hj, hopened, hrot]; simp
      · rw [openSegment_ok_seg, if_neg fun hc => hj hc.1, h.none_active]
        exact iff_of_false nofun fun hc => hj hc.2
    mapped := fun _ => ⟨congrArg Segment.present hopened, congrArg Segment.len hopened, h.index_lt⟩
    cursor_open := fun _ => hslots
    cursor_full := nofun
    count := fun _ => h.sw_eq
    terminated := nofun
    cursor_le := Nat.zero_le _
    index_le := h.index_lt.le.trans hmax
    sw_le_capacity := h.sw_le_capacity hfits
    sw_le_budget := fun _ => h.sw_le_budget
    sw_lt_budget := fun hp => by rcases hp with hp | hp <;> cases hp
    unwritten := fun _ off _ hoff => by
      show ((openSegment s.segIndex.toNat .ok toCheck s).seg s.segIndex.toNat).bytes.read off = 0#8
      rw [hopened, Memory.read_zeroFill]
      exact if_neg (Nat.not_le.mpr hoff)
    frame_length := h.frame_length
    packet_length := h.packet_length
    frame_header := fun hf => by cases h.held.symm.trans hf }

theorem sessionInv_openSegment {s : State} (hfits : CapacityFits s) (h : ReadyToOpen s) (b : StorageAnswer) :
    SessionInv (openSegment s.segIndex.toNat b toCheck s) := by
  cases b with
  | ok => exact sessionInv_opened hfits h
  | fail =>
    obtain ⟨_, _, _, hmax, _⟩ := latched_numbers hfits h.latched
    exact sessionInv_fatal _ h.cursor_le (h.index_lt.le.trans hmax) (h.sw_le_capacity hfits) h.packet_length

/-- START has latched the configuration and cleared the counts. -/
theorem readyToOpen_initSession {s : State} (h : SessionInv s) (hphase : PhaseInv s) (hstore : StoreShape s)
    (hr : s.running = false) (hc : s.configLegal = true) : ReadyToOpen (initSession s) where
  latched := ⟨hc, rfl, rfl⟩
  none_active := h.none_active (hphase.unmapped_of_stopped hr)
  index_lt := ((configLegal_iff s).mp hc).2.2.2.1
  store := hstore.1
  cursor_le := Nat.zero_le _
  sw_eq := (Nat.zero_mul _).symm
  sw_le_budget := Nat.zero_le _
  held := rfl
  frame_length := by simp
  packet_length := h.packet_length

/-- At a rotation the mapped segment is full, so its rows and those before it fill seg_index + 1 segments. -/
theorem rotate_numbers {s : State} (h : SessionInv s) (hphase : PhaseInv s) (hp : s.ph = .rotate) :
    s.cursor = s.slots ∧ s.segIndex.toNat < s.segCount.toNat ∧ (s.segIndex + 1#32).toNat = s.segIndex.toNat + 1 ∧
      s.sw.toNat = (s.segIndex + 1#32).toNat * s.slots.toNat := by
  have hfull := hphase.full_iff.mpr hp
  have hcursor := h.cursor_full hfull
  obtain ⟨_, _, hlt⟩ := h.mapped (.inr hfull)
  have hnext := toNat_add_one_of_lt hlt
  refine ⟨hcursor, hlt, hnext, ?_⟩
  rw [h.count (.inr hfull), hcursor, hnext, Nat.succ_mul]

theorem readyToOpen_releaseFull {s : State} (h : SessionInv s) (hphase : PhaseInv s) (hstore : StoreShape s)
    (hp : s.ph = .rotate) (ho : s.rotationOpens = true) : ReadyToOpen (releaseFull s) := by
  have hr : s.running = true := running_of_inSession (.inr (.inr (.inr hp)))
  obtain ⟨_, hlt, _, hsw⟩ := rotate_numbers h hphase hp
  exact {
    latched := h.config hr
    none_active := h.none_active_released
    index_lt := toNat_add_one_lt_of_ne (by simpa [State.rotationOpens] using ho) hlt
    store := (storeShape_storeRelease hstore s.segIndex.toNat).1
    cursor_le := h.cursor_le
    sw_eq := hsw
    sw_le_budget := h.sw_le_budget hr
    held := hphase.not_held (by simp [hp])
    frame_length := h.frame_length
    packet_length := h.packet_length }

/-- After the last segment every slot is filled (43_storage_rotator.md R224). -/
theorem sessionInv_terminated {s : State} (hfits : CapacityFits s) (h : SessionInv s) (hphase : PhaseInv s)
    (hp : s.ph = .rotate) (ho : s.rotationOpens = false) : SessionInv { releaseFull s with rot := .terminated, ph := .check } := by
  have hr : s.running = true := running_of_inSession (.inr (.inr (.inr hp)))
  have hlast : s.segIndex + 1#32 = s.segCount := by simpa [State.rotationOpens] using ho
  obtain ⟨_, _, _, hmax, hcap⟩ := latched_numbers hfits (h.config hr)
  obtain ⟨hcursor, _, _, hsw⟩ := rotate_numbers h hphase hp
  have hall : s.sw = s.capacity := BitVec.eq_of_toNat_eq (by rw [hsw, hlast, hcap])
  have hactive : ∀ i, ((storeRelease s.segIndex.toNat s).seg i).active = false := h.none_active_released
  exact {
    config := fun _ => h.config hr
    active_iff := fun i => iff_of_false (fun ha => by cases (hactive i).symm.trans ha) (by simp)
    mapped := by simp
    cursor_open := nofun
    cursor_full := nofun
    count := by simp
    terminated := fun _ => ⟨hcursor, hall, fun _ => hlast⟩
    cursor_le := h.cursor_le
    index_le := by
      show (s.segIndex + 1#32).toNat ≤ s.segCountMax
      rw [hlast]; exact hmax
    sw_le_capacity := h.sw_le_capacity
    sw_le_budget := fun _ => h.sw_le_budget hr
    sw_lt_budget := fun hp => by rcases hp with hp | hp <;> cases hp
    unwritten := nofun
    frame_length := h.frame_length
    packet_length := h.packet_length
    frame_header := fun hf => by cases (hphase.not_held (by simp [hp])).symm.trans hf }

/-! DELIVER. -/

theorem append_cursor_of_open {s : State} (h : s.rot = .segmentOpen) : (append s).cursor = s.cursor + 1#32 := by
  rw [append_of_open h]

/-- DELIVER writes the row into the slot at the cursor of the mapped segment and touches no other entry. -/
theorem deliver_seg_of_open {s : State} (h : s.rot = .segmentOpen) (j : Nat) :
    (deliver s).seg j =
      if j = s.segIndex.toNat ∧ s.segIndex.toNat < s.segs.length then
        { s.seg s.segIndex.toNat with
          bytes := (s.seg s.segIndex.toNat).bytes.write (slotBase s.cursor) (bytesOfSamples (frameSamples s.frame)) }
      else s.seg j := by
  have hsegs : (deliver s).segs = (storeWrite s.segIndex.toNat (slotBase s.cursor)
      (bytesOfSamples (frameSamples s.frame)) (decodeFrame s)).segs := by
    rw [deliver_segs, append_of_open (s := decodeFrame s) h]; rfl
  rw [seg_congr hsegs, seg_storeWrite]; rfl

theorem deliver_seg_bits {s : State} (h : s.rot = .segmentOpen) (j : Nat) :
    ((deliver s).seg j).present = (s.seg j).present ∧ ((deliver s).seg j).active = (s.seg j).active ∧
      ((deliver s).seg j).len = (s.seg j).len := by
  rw [deliver_seg_of_open h]
  split
  · rename_i hj; rw [hj.1]; exact ⟨rfl, rfl, rfl⟩
  · exact ⟨rfl, rfl, rfl⟩

/-- The slots behind the one written read as before. -/
theorem deliver_read_behind {s : State} (h : s.rot = .segmentOpen) (hframe : s.frame.length = Config.frameLen) {off : Nat}
    (hoff : slotBase s.cursor + Config.slotBytes ≤ off) :
    readStore (deliver s) s.segIndex.toNat off = readStore s s.segIndex.toNat off := by
  rw [readStore, deliver_seg_of_open h]
  split
  · rw [Memory.read_write, row_length hframe, if_neg (by omega)]; rfl
  · rfl

theorem sessionInv_deliver {s : State} (hfits : CapacityFits s) (h : SessionInv s) (hphase : PhaseInv s)
    (hp : s.ph = .deliver) : SessionInv (deliver s) := by
  have hr : s.running = true := running_of_inSession (.inr (.inr (.inl hp)))
  have ho : s.rot = .segmentOpen := hphase.open_of_sync (.inr hp)
  have hcursor := h.cursor_open ho
  have hbudget := h.sw_lt_budget (.inr hp)
  obtain ⟨hpresent, hlen, hindex⟩ := h.mapped (.inl ho)
  obtain ⟨_, _, _, _, hcap⟩ := latched_numbers hfits (h.config hr)
  have hcount := h.count (.inl ho)
  have hcursor' : (deliver s).cursor = s.cursor + 1#32 := (deliver_cursor s).trans (append_cursor_of_open ho)
  have hrot : (deliver s).rot = if s.cursor + 1#32 = s.slots then .segmentFull else .segmentOpen :=
    (deliver_rot s).trans (append_rot_of_open ho)
  have hcursorNat := toNat_add_one_of_lt hcursor
  have hswNat := toNat_add_one_of_lt hbudget
  have hcapacity : s.sw.toNat + 1 ≤ s.capacity.toNat := by
    have := Nat.mul_le_mul_right s.slots.toNat (Nat.succ_le_of_lt hindex)
    rw [Nat.succ_mul] at this
    omega
  exact {
    config := fun _ => by simpa [State.configLegal] using h.config hr
    active_iff := fun i => by
      rw [(deliver_seg_bits ho i).2.1, h.active_iff, hrot, deliver_segIndex, ho]
      split <;> simp
    mapped := fun _ => by
      obtain ⟨hpresent', _, hlen'⟩ := deliver_seg_bits ho s.segIndex.toNat
      rw [deliver_segIndex, deliver_segBytes, deliver_segCount, hpresent', hlen']
      exact ⟨hpresent, hlen, hindex⟩
    cursor_open := fun ho' => by
      rw [hcursor', deliver_slots]
      refine toNat_add_one_lt_of_ne (fun hlast => ?_) hcursor
      rw [hrot, if_pos hlast] at ho'; cases ho'
    cursor_full := fun hf' => by
      rw [hcursor', deliver_slots]
      by_contra hlast
      rw [hrot, if_neg hlast] at hf'; cases hf'
    count := fun _ => by
      rw [deliver_sw, deliver_segIndex, deliver_slots, hcursor', hswNat, hcursorNat]; omega
    terminated := fun ht => by
      rw [hrot] at ht
      split at ht <;> cases ht
    cursor_le := by rw [hcursor', deliver_slots]; omega
    index_le := by simpa using h.index_le
    sw_le_capacity := by rw [deliver_sw, deliver_capacity]; omega
    sw_le_budget := fun _ => by rw [deliver_sw, deliver_budget]; omega
    sw_lt_budget := fun hp' => by
      rw [deliver_ph] at hp'
      split at hp' <;> simp at hp'
    unwritten := fun _ off hoff hlt => by
      have hbehind : slotBase s.cursor + Config.slotBytes ≤ off := by
        rw [hcursor', slotBase, hcursorNat, Nat.mul_add_one] at hoff; exact hoff
      rw [deliver_segBytes] at hlt
      rw [deliver_segIndex, deliver_read_behind ho h.frame_length hbehind]
      exact h.unwritten ho off (Nat.le_of_add_right_le hbehind) hlt
    frame_length := by simp
    packet_length := by simp
    frame_header := by simp }

theorem sessionInv_change {s t : State} (hstore : StoreShape s) (hphase : PhaseInv s) (hfits : CapacityFits s)
    (h : SessionInv s) (c : Change s t) : SessionInv t := by
  cases c with
  | flags f => exact { h with }
  | configured h0 h1 b g n hr => exact sessionInv_withConfig h hphase hr h0 h1 b g n
  | started b hr hc => exact sessionInv_openSegment (s := initSession s) hfits (readyToOpen_initSession h hphase hstore hr hc) b
  | softReset => exact sessionInv_softReset h
  | hardReset => exact sessionInv_hardReset s
  | synced data hp _ => exact sessionInv_syncStep h hp data
  | linkFailed _ => exact sessionInv_fatal _ h.cursor_le h.index_le h.sw_le_capacity h.packet_length
  | terminated hp ho => exact sessionInv_terminated hfits h hphase hp ho
  | rotated b hp ho _ =>
    exact sessionInv_openSegment (s := releaseFull s) hfits (readyToOpen_releaseFull h hphase hstore hp ho) b
  | ended code hp => exact sessionInv_endSession h hphase hp code
  | linkRead hp hb _ => exact sessionInv_linkRead h hp hb
  | delivered hp => exact sessionInv_deliver hfits h hphase hp

end Sys2Proof.Machine

namespace Sys2Proof.Machine

/-! ### The counters against the latched SLOTS and CAPACITY (10_state.md R40, R43) -/

theorem capacityFits_congr {s t : State} (h : CapacityFits s) (hcount : t.segCountMax = s.segCountMax)
    (hbytes : t.segBytesMax = s.segBytesMax) : CapacityFits t := by
  rw [CapacityFits, hcount, hbytes]; exact h

theorem latchInv_idle {s : State} (hfits : CapacityFits s) (hp : s.ph = .idle)
    (hzero : s.cursor = 0#32 ∧ s.segIndex = 0#32 ∧ s.sw = 0#32) : LatchInv s :=
  ⟨hfits, fun hne => absurd hp hne, fun _ => hzero, fun hne => absurd hp hne⟩

/-- cursor = SLOTS stands in SegmentFull, in Terminated and after a ROTATE whose open failed (10_state.md R43; log entry 14). -/
def CursorMayStandAtSlots (s : State) : Prop :=
  s.rot = .segmentFull ∨ s.rot = .terminated ∨
    (s.ph = .fault ∧ s.exitCode = .storageAllocFailure ∧ 1 ≤ s.segIndex.toNat ∧ (s.seg s.segIndex.toNat).present = false)

/-- A step inside a session that keeps SLOTS, CAPACITY, seg_index and the maxima. -/
theorem latchInv_of_counts {s t : State} (h : LatchInv s) (hs : s.ph ≠ .idle) (ht : t.ph ≠ .idle)
    (hlatched : t.slots = s.slots ∧ t.capacity = s.capacity ∧ t.segIndex = s.segIndex)
    (hmax : t.segCountMax = s.segCountMax ∧ t.segBytesMax = s.segBytesMax)
    (hcursor : t.cursor = t.slots → CursorMayStandAtSlots t) : LatchInv t := by
  obtain ⟨hslots, hcapacity, hindex⟩ := hlatched
  refine ⟨capacityFits_congr h.fits hmax.1 hmax.2, fun _ => hcursor, fun hp => absurd hp ht, fun _ => ?_⟩
  rw [hslots, hcapacity, hindex, hmax.1]
  exact h.latched hs

theorem zero_ne_of_pos {a : Word} (h : 1 ≤ a.toNat) : 0#32 ≠ a := fun he => by rw [← he] at h; cases h

/-- After a failed open the segment does not exist (43_storage_rotator.md R220). -/
theorem openSegment_fail_seg_present (i : Nat) (s : State) : ((openSegment i .fail toCheck s).seg i).present = false := by
  have hseg : (openSegment i .fail toCheck s).seg i =
      { (setSeg i { s.seg i with present := false } s).seg i with active := false } := by
    rw [openSegment_fail, seg_congr (s := releaseActive (setSeg i { s.seg i with present := false } s)) (fatal_segs ..),
      seg_releaseActive]
  rw [hseg, seg_setSeg]
  split
  · rfl
  · rename_i hout
    refine Bool.eq_false_iff.mpr fun hp => hout ⟨rfl, lt_length_of_present hp⟩

theorem latchInv_openSegment {s : State} (hfits : CapacityFits s) (h : ReadyToOpen s)
    (hfirst : s.cursor = s.slots → 1 ≤ s.segIndex.toNat) (b : StorageAnswer) :
    LatchInv (openSegment s.segIndex.toNat b toCheck s) := by
  obtain ⟨hslots, _, hone, hmax, hcap⟩ := latched_numbers hfits h.latched
  have hlatched : 1 ≤ s.slots.toNat ∧ ∃ n, 1 ≤ n ∧ n ≤ s.segCountMax ∧ s.capacity.toNat = n * s.slots.toNat ∧
      s.segIndex.toNat ≤ n := ⟨hslots, s.segCount.toNat, hone, hmax, hcap, h.index_lt.le⟩
  cases b with
  | ok => exact ⟨hfits, fun _ he => absurd he (zero_ne_of_pos hslots), nofun, fun _ => hlatched⟩
  | fail =>
    refine ⟨hfits, fun _ he => .inr (.inr ⟨rfl, rfl, hfirst he, ?_⟩), nofun, fun _ => hlatched⟩
    exact openSegment_fail_seg_present s.segIndex.toNat s

theorem latchInv_terminated {s : State} (h : LatchInv s) (hsession : SessionInv s) (hp : s.ph = .rotate)
    (ho : s.rotationOpens = false) : LatchInv { releaseFull s with rot := .terminated, ph := .check } := by
  have hlast : s.segIndex + 1#32 = s.segCount := by simpa [State.rotationOpens] using ho
  obtain ⟨hslots, _, hone, hmax, hcap⟩ :=
    latched_numbers h.fits (hsession.config (running_of_inSession (.inr (.inr (.inr hp)))))
  exact ⟨h.fits, fun _ _ => .inr (.inl rfl), nofun,
    fun _ => ⟨hslots, s.segCount.toNat, hone, hmax, hcap, (congrArg BitVec.toNat hlast).le⟩⟩

theorem latchInv_endSession {s : State} (h : LatchInv s) (hsession : SessionInv s) (hphase : PhaseInv s) (hp : s.ph = .check)
    (code : ExitCode) : LatchInv (endSession code s) := by
  refine latchInv_of_counts h (by simp [hp]) (by simp) (by simp) (by simp) fun he => ?_
  rw [endSession_cursor, endSession_slots] at he
  rcases hphase.rot_of_check hp with ho | ht
  · exact absurd he (hsession.cursor_ne_slots ho)
  · refine .inr (.inl ?_)
    rw [endSession, if_neg (by simp [ht])]; exact ht

theorem latchInv_deliver {s : State} (h : LatchInv s) (hphase : PhaseInv s) (hp : s.ph = .deliver) : LatchInv (deliver s) := by
  have ho : s.rot = .segmentOpen := hphase.open_of_sync (.inr hp)
  refine latchInv_of_counts h (by simp [hp]) ?_ (by simp) (by simp) fun he => ?_
  · rw [deliver_ph]; split <;> simp
  · rw [deliver_cursor, append_cursor_of_open (s := decodeFrame s) ho, deliver_slots] at he
    exact .inl (by rw [deliver_rot, append_rot_of_open (s := decodeFrame s) ho]; exact if_pos he)

theorem latchInv_change {s t : State} (hstore : StoreShape s) (hphase : PhaseInv s) (hsession : SessionInv s)
    (h : LatchInv s) (c : Change s t) : LatchInv t := by
  cases c with
  | flags f => exact { h with }
  | configured h0 h1 b g n _ => exact { h with }
  | started b hr hc =>
    have hready := readyToOpen_initSession hsession hphase hstore hr hc
    obtain ⟨hslots, _⟩ := latched_numbers (s := initSession s) h.fits hready.latched
    exact latchInv_openSegment (s := initSession s) h.fits hready (fun he => absurd he (zero_ne_of_pos hslots)) b
  | softReset => exact latchInv_idle h.fits rfl ⟨rfl, rfl, rfl⟩
  | hardReset => exact latchInv_idle h.fits rfl ⟨rfl, rfl, rfl⟩
  | synced data hp _ =>
    refine latchInv_of_counts h (by simp [hp]) ?_ (by simp) (by simp) fun he => ?_
    · rcases syncStep_cases data s with ⟨_, hs⟩ | ⟨_, _, _, hs⟩ | ⟨_, _, _, hs⟩ <;> simp [hs, hp]
    · rw [syncStep_cursor, syncStep_slots] at he
      exact absurd he (hsession.cursor_ne_slots (hphase.open_of_sync (.inl hp)))
  | linkFailed hp =>
    exact latchInv_of_counts h (by simp [hp]) nofun ⟨rfl, rfl, rfl⟩ ⟨rfl, rfl⟩ fun he =>
      absurd he (hsession.cursor_ne_slots (hphase.open_of_sync (.inl hp)))
  | terminated hp ho => exact latchInv_terminated h hsession hp ho
  | rotated b hp ho _ =>
    obtain ⟨_, _, hnext, _⟩ := rotate_numbers hsession hphase hp
    exact latchInv_openSegment (s := releaseFull s) h.fits (readyToOpen_releaseFull hsession hphase hstore hp ho)
      (fun _ => by rw [releaseFull_segIndex, hnext]; omega) b
  | ended code hp => exact latchInv_endSession h hsession hphase hp code
  | linkRead hp _ ht =>
    exact latchInv_of_counts h (by simp [hp]) nofun ⟨rfl, rfl, rfl⟩ ⟨rfl, rfl⟩ fun he =>
      absurd he (hsession.cursor_ne_slots ((hphase.rot_of_check hp).resolve_right ht))
  | delivered hp => exact latchInv_deliver h hphase hp

/-! ### The invariant of reachable states (10_state.md R54) -/

theorem inv_effect {s t : State} (h : Inv s) (e : Effect s t) : Inv t where
  store := storeShape_change h.store e.change
  phase := phaseInv_effect h.phase e
  window := windowInv_change h.window e.change
  session := sessionInv_change h.store h.phase h.latch.fits h.session e.change
  latch := latchInv_change h.store h.phase h.session h.latch e.change

/-- No part of the invariant reads the coming transactions. -/
theorem inv_withInput {s : State} (h : Inv s) (rest : List Byte) : Inv { s with input := rest } where
  store := h.store
  phase := { h.phase with }
  window := { h.window with }
  session := { h.session with }
  latch := { h.latch with }

/-- Settles O55: each part of the invariant is kept by every effect a transaction can have. -/
theorem invariantKept : Obligations.InvariantKept := by
  intro s t h hstep
  obtain ⟨rest, e⟩ := step_effect hstep
  exact inv_effect (inv_withInput h rest) e

/-- Settles O56: IDLE with an empty window, no segment and zero counts meets each part. -/
theorem invariantAtReset : Obligations.InvariantAtReset where
  store := ⟨reset_segs_length, fun g hg => by rw [reset_segs_absent hg]; decide⟩
  phase := phaseInv_idle rfl rfl rfl rfl rfl
  window := windowInv_of_kept (by unfold ParamLegal; decide) (Nat.zero_le _)
  session := sessionInv_unmapped rfl rfl rfl (fun i => by rw [reset_seg]; rfl) (Nat.zero_le _) (Nat.zero_le _) (Nat.zero_le _)
    List.length_replicate ⟨List.length_replicate, List.length_replicate⟩
  latch := latchInv_idle (by unfold CapacityFits; decide) rfl ⟨rfl, rfl, rfl⟩

end Sys2Proof.Machine

namespace Sys2Proof.Machine

/-! ### The order of steps (20_memory.md R91) -/

theorem fetch_of_input {s : State} (h : s.input ≠ []) : fetch s = some (decode s.input) := by
  unfold fetch
  cases hin : s.input with
  | nil => exact absurd hin h
  | cons b bs => rfl

theorem step_of_decode {s : State} {i : Instr} {rest : List Byte} (h : decode s.input = .ok i rest) :
    step s = exec i { s with input := rest } := by
  have hne : s.input ≠ [] := fun hnil => by rw [hnil] at h; cases h
  simp only [step, fetch_of_input hne, h]

/-- Everything a step can be: an instruction's meaning, a wait, or the refusal of bytes that are no transaction. -/
theorem step_eq_cases (s : State) :
    (∃ i rest, step s = exec i { s with input := rest }) ∨ step s = .next s ∨
      ∃ e, step s = .refused (.badTransaction e) := by
  unfold step
  split
  · rcases controllerStep_cases s with h | h | h | h
    · exact .inl ⟨_, s.input, h⟩
    · exact .inl ⟨_, s.input, h⟩
    · exact .inl ⟨_, s.input, h⟩
    · exact .inr (.inl h)
  · exact .inl ⟨_, _, rfl⟩
  · exact .inr (.inr ⟨_, rfl⟩)

/-- Settles O5: bytes that decode are not empty, so they are what the step fetches. -/
theorem stepRunsDecodedInstruction : Obligations.StepRunsDecodedInstruction :=
  fun _ _ _ _ hdecode => step_of_decode hdecode

end Sys2Proof.Machine

namespace Sys2Proof.Machine

/-! ### StoreRead (20_memory.md R90) -/

/-- The conditions under which a StoreRead has a step (20_memory.md R90). -/
def Readable (seg off n : Word) (s : State) : Prop :=
  seg.toNat < s.segCountMax ∧ (s.seg seg.toNat).present = true ∧ (s.seg seg.toNat).active = false ∧ 1 ≤ n.toNat ∧
    off.toNat + n.toNat ≤ (s.seg seg.toNat).len.toNat

/-- Everything READ can answer. -/
theorem exec_read_cases (seg off n : Word) (s : State) :
    (Readable seg off n s ∧ exec (.read seg off n) s =
      .next { s with reply := .bytes ((s.seg seg.toNat).bytes.readBytes off.toNat n.toNat) }) ∨
    (¬ Readable seg off n s ∧ ∃ r, exec (.read seg off n) s = .refused r) := by
  simp only [exec, execRead]
  split
  · rename_i habsent
    exact .inr ⟨fun ⟨hlt, hpresent, _⟩ => habsent ⟨hlt, hpresent⟩, _, rfl⟩
  · rename_i hexists
    obtain ⟨hlt, hpresent⟩ := not_not.mp hexists
    split
    · rename_i hactive
      exact .inr ⟨fun ⟨_, _, hreleased, _⟩ => (by cases hactive.symm.trans hreleased), _, rfl⟩
    · rename_i hreleased
      split
      · rename_i houtside
        exact .inr ⟨fun ⟨_, _, _, hinside⟩ => houtside hinside, _, rfl⟩
      · rename_i hinside
        exact .inl ⟨⟨hlt, hpresent, Bool.eq_false_iff.mpr hreleased, not_not.mp hinside⟩, rfl⟩

theorem Memory.getElem?_readBytes (m : Memory) (a : Nat) {n i : Nat} (h : i < n) :
    (m.readBytes a n)[i]? = some (m.read (a + i)) := by
  simp [Memory.readBytes, h]

/-- Settles O22: READ answers exactly under R90's conditions, and then with the bytes from `off` on. -/
theorem storeRead : Obligations.StoreRead := by
  intro s seg off n
  rcases exec_read_cases seg off n s with ⟨hreadable, hnext⟩ | ⟨hunreadable, hrefused⟩
  · exact ⟨fun _ => ⟨_, hnext, Memory.readBytes_length .., fun i hi => Memory.getElem?_readBytes _ _ hi⟩,
      fun hunreadable => absurd hreadable hunreadable⟩
  · exact ⟨fun hreadable => absurd hreadable hunreadable, fun _ => hrefused⟩

end Sys2Proof.Machine

namespace Sys2Proof.Machine

/-! ### One byte of the store after a write and after an open (20_memory.md R86, R89) -/

theorem readStore_setSeg_of_ne {i j : Nat} (h : j ≠ i) (g : Segment) (s : State) (off : Nat) :
    readStore (setSeg i g s) j off = readStore s j off := by
  simp [readStore, seg_setSeg, h]

theorem readStore_storeWrite {i : Nat} {s : State} (hi : i < s.segs.length) (a : Nat) (bs : List Byte) (off : Nat) :
    readStore (storeWrite i a bs s) i off =
      if a ≤ off ∧ off < a + bs.length then bs.getD (off - a) 0#8 else readStore s i off := by
  rw [readStore, seg_storeWrite, if_pos ⟨rfl, hi⟩, Memory.read_write]; rfl

theorem readStore_storeOpen {i : Nat} {s : State} (hi : i < s.segs.length) (off : Nat) :
    readStore (storeOpen i s) i off = if off < s.segBytes.toNat then 0#8 else readStore s i off := by
  rw [readStore, seg_storeOpen, if_pos ⟨rfl, hi⟩, Memory.read_zeroFill]
  by_cases h : off < s.segBytes.toNat
  · rw [if_pos h, if_neg (Nat.not_le.mpr h)]
  · rw [if_neg h, if_pos (Nat.not_lt.mp h)]; rfl

/-- Settles O35: both writers replace one entry's bytes, and two slots do not overlap. -/
theorem slotWriteReadsBack : Obligations.SlotWriteReadsBack := by
  intro s i k bs hshape hi hbs
  have hi : i < s.segs.length := hshape.1 ▸ hi
  have hwrite := readStore_storeWrite hi (512 * k) bs
  rw [hbs] at hwrite
  refine ⟨storeShape_setSeg hshape i (Memory.wf_write (wf_seg hshape i) _ _),
    storeShape_setSeg hshape i (Memory.wf_zeroFill (wf_seg hshape i) _), fun j hj => ?_, fun k' j hk hj => ?_,
    readStore_storeOpen hi, fun i' off hne => ⟨readStore_setSeg_of_ne hne .., readStore_setSeg_of_ne hne ..⟩⟩
  · rw [hwrite, if_pos (by omega), Nat.add_sub_cancel_left]
  · rw [hwrite, if_neg (by omega)]

end Sys2Proof.Machine

namespace Sys2Proof.Machine

/-! ### What the guarded instructions answer (READ: `exec_read_cases`) -/

/-- Everything RX.DATA can answer (40_link_interface.md R151, R152). -/
theorem exec_rxData_cases (data : List Byte) (s : State) :
    exec (.rxData data) s = .next (syncStep data s) ∨ ∃ r, exec (.rxData data) s = .refused r := by
  simp only [exec, execRxData]
  split
  · split
    · exact .inl rfl
    · exact .inr ⟨_, rfl⟩
  · exact .inr ⟨_, rfl⟩

/-- Everything RX.FAIL can answer (40_link_interface.md R154). -/
theorem exec_rxFail_cases (s : State) :
    exec .rxFail s = .next (fatal .linkFailure s) ∨ ∃ r, exec .rxFail s = .refused r := by
  simp only [exec, execRxFail]
  split
  · exact .inl rfl
  · exact .inr ⟨_, rfl⟩

/-- Everything CHECK can answer (44_acquisition_loop.md R250). -/
theorem exec_stepCheck_cases (s : State) :
    (∃ code, exec .stepCheck s = .next (endSession code s)) ∨ exec .stepCheck s = .next { s with ph := .sync } ∨
      ∃ r, exec .stepCheck s = .refused r := by
  simp only [exec, execStepCheck]
  split
  · split
    · exact .inl ⟨_, rfl⟩
    · split
      · exact .inl ⟨_, rfl⟩
      · split
        · exact .inl ⟨_, rfl⟩
        · exact .inr (.inl rfl)
  · exact .inr (.inr ⟨_, rfl⟩)

/-- Everything DELIVER can answer (44_acquisition_loop.md R252). -/
theorem exec_stepDeliver_cases (s : State) :
    exec .stepDeliver s = .next (deliver s) ∨
    (s.ph = .deliver ∧ s.rot = .segmentOpen ∧ s.slotMapped = false ∧ exec .stepDeliver s = .fault .slotOutsideSegment) ∨
    ∃ r, exec .stepDeliver s = .refused r := by
  simp only [exec, execStepDeliver]
  split
  · split
    · rename_i hp hout
      exact .inr (.inl ⟨hp, hout.1, hout.2, rfl⟩)
    · exact .inl rfl
  · exact .inr (.inr ⟨_, rfl⟩)

/-- Everything STEP.ROTATE can answer (43_storage_rotator.md R222). -/
theorem exec_stepRotate_cases (a : Option StorageAnswer) (s : State) :
    (s.ph = .rotate ∧ exec (.stepRotate a) s = rotate a s) ∨ ∃ r, exec (.stepRotate a) s = .refused r := by
  simp only [exec, execStepRotate]
  split
  · exact .inl ⟨‹_›, rfl⟩
  · exact .inr ⟨_, rfl⟩

end Sys2Proof.Machine

namespace Sys2Proof.Machine

/-! ### Which transactions write the store (20_memory.md R89, R97) -/

/-- Every byte of the store is as before. -/
def SameBytes (s t : State) : Prop := ∀ j, (t.seg j).bytes = (s.seg j).bytes

theorem sameBytes_of_segs {s t : State} (h : t.segs = s.segs) : SameBytes s t := fun j =>
  congrArg Segment.bytes (seg_congr h j)

theorem SameBytes.trans {s t u : State} (h : SameBytes s t) (h' : SameBytes t u) : SameBytes s u := fun j =>
  (h' j).trans (h j)

/-- Replacing an entry by one with its bytes changes none. -/
theorem sameBytes_setSeg {i : Nat} {g : Segment} {s : State} (h : g.bytes = (s.seg i).bytes) : SameBytes s (setSeg i g s) := by
  intro j
  rw [seg_setSeg]
  split
  · rename_i hj; rw [h, hj.1]
  · rfl

/-- Changing every entry but for its bytes changes none. -/
theorem sameBytes_map {s t : State} {f : Segment → Segment} (hsegs : t.segs = s.segs.map f)
    (hf : ∀ g, (f g).bytes = g.bytes) : SameBytes s t := by
  intro j
  simp only [State.seg, hsegs, List.getD_eq_getElem?_getD, List.getElem?_map]
  cases s.segs[j]? with
  | none => rfl
  | some g => exact hf g

theorem sameBytes_fatal (code : ExitCode) (s : State) : SameBytes s (fatal code s) :=
  sameBytes_map (fatal_segs code s) fun _ => rfl

theorem sameBytes_openSegment_fail (i : Nat) (s : State) : SameBytes s (openSegment i .fail toCheck s) :=
  (sameBytes_setSeg (g := { s.seg i with present := false }) rfl).trans (sameBytes_fatal _ _)

theorem sameBytes_storeRelease (i : Nat) (s : State) : SameBytes s (storeRelease i s) :=
  sameBytes_setSeg (g := { s.seg i with active := false }) rfl

theorem sameBytes_endSession (code : ExitCode) (s : State) : SameBytes s (endSession code s) := by
  unfold endSession
  split
  · exact sameBytes_storeRelease s.segIndex.toNat s
  · exact sameBytes_of_segs rfl

theorem sameBytes_cancelCommand (s : State) : SameBytes s (cancelCommand s) := by
  rcases cancelCommand_cases s with ⟨_, h⟩ | ⟨_, h⟩ <;> rw [h] <;> exact sameBytes_of_segs rfl

theorem sameBytes_writeConfig {f : State → State} {s : State} (hf : (f s).segs = s.segs) :
    SameBytes s (writeConfig f s) := by
  rcases writeConfig_cases f s with ⟨_, h⟩ | ⟨_, h⟩ <;> rw [h]
  · exact sameBytes_of_segs rfl
  · exact sameBytes_of_segs hf

/-- The transactions that carry the answer OPEN_OK (43_storage_rotator.md R220; SA.OPEN_OK: log entry 2). -/
def CarriesOpenOk (i : Instr) : Prop :=
  i = .cmdStart (some .ok) ∨ i = .wrCmd 1#32 (some .ok) ∨ i = .saOpenOk ∨ i = .stepRotate (some .ok)

/-- What a transaction can do to the store's bytes. A successful open has the number seg_index of the state `u` that START or
ROTATE has prepared. -/
inductive StoreCause (i : Instr) (s : State) : State → Prop where
  | kept {t : State} (hb : SameBytes s t) : StoreCause i s t
  | opened (u : State) (hi : CarriesOpenOk i) (hb : SameBytes s u) :
      StoreCause i s (openSegment u.segIndex.toNat .ok toCheck u)
  | delivered (hi : i = .stepDeliver) : StoreCause i s (deliver s)

theorem openSegment_storeCause {i : Instr} {s u : State} (b : StorageAnswer) (hi : b = .ok → CarriesOpenOk i)
    (hb : SameBytes s u) : StoreCause i s (openSegment u.segIndex.toNat b toCheck u) := by
  cases b with
  | ok => exact .opened u (hi rfl) hb
  | fail => exact .kept (hb.trans (sameBytes_openSegment_fail _ u))

theorem startCommand_storeCause {i : Instr} {a : Option StorageAnswer} {s : State} (hi : a = some .ok → CarriesOpenOk i) :
    StoreCause i s (startCommand a s) := by
  rcases startCommand_cases a s with ⟨_, h⟩ | ⟨_, _, h⟩ | ⟨_, _, _, h⟩ | ⟨_, _, b, ha, h⟩ <;> rw [h]
  · exact .kept (sameBytes_of_segs rfl)
  · exact .kept (sameBytes_of_segs rfl)
  · exact .kept (sameBytes_of_segs rfl)
  · exact openSegment_storeCause (u := initSession s) b (fun hb => hi (by rw [ha, hb])) (sameBytes_of_segs rfl)

theorem rotate_storeCause {i : Instr} {a : Option StorageAnswer} {s t : State} (hi : a = some .ok → CarriesOpenOk i)
    (h : rotate a s = .next t) : StoreCause i s t := by
  rcases rotate_cases a s with ⟨_, h'⟩ | ⟨_, _, h'⟩ | ⟨_, _, b, ha, h'⟩ | ⟨_, _, h'⟩ <;> rw [h'] at h <;> cases h
  · exact .kept (sameBytes_storeRelease s.segIndex.toNat s)
  · exact .kept (sameBytes_of_segs rfl)
  · exact openSegment_storeCause (u := releaseFull s) b (fun hb => hi (by rw [ha, hb])) (sameBytes_storeRelease s.segIndex.toNat s)

theorem storageAnswer_storeCause {i : Instr} {b : StorageAnswer} {s t : State} (hi : b = .ok → CarriesOpenOk i)
    (h : storageAnswer b s = .next t) : StoreCause i s t := by
  have hi : some b = some .ok → CarriesOpenOk i := fun hb => hi (Option.some.inj hb)
  rcases storageAnswer_cases b s with ⟨_, h'⟩ | ⟨_, _, _, h'⟩ | h' <;> rw [h'] at h
  · cases h; exact startCommand_storeCause hi
  · exact rotate_storeCause hi h
  · cases h

theorem commandWord_storeCause (d : Word) (a : Option StorageAnswer) (s : State) :
    StoreCause (.wrCmd d a) s (commandWord d a s) := by
  rcases commandWord_word_cases d a s with h | h | ⟨hd, h⟩ | h | h | ⟨_, h⟩ <;> rw [h]
  · exact .kept (sameBytes_of_segs rfl)
  · exact .kept (sameBytes_of_segs rfl)
  · exact startCommand_storeCause fun ha => .inr (.inl (by rw [hd, ha]))
  · exact .kept (sameBytes_cancelCommand s)
  · exact .kept (sameBytes_of_segs rfl)
  · exact .kept (sameBytes_map (softReset_segs s) fun _ => rfl)

/-- Every next state of an instruction has one of the causes. -/
theorem exec_storeCause {i : Instr} {s t : State} (h : exec i s = .next t) : StoreCause i s t := by
  cases i with
  | cmdNop => cases h; exact .kept (sameBytes_of_segs rfl)
  | cmdStart a => cases h; exact startCommand_storeCause fun ha => .inl (by rw [ha])
  | cmdCancel => cases h; exact .kept (sameBytes_cancelCommand s)
  | cmdClrerr => cases h; exact .kept (sameBytes_of_segs rfl)
  | cmdSoftreset => cases h; exact .kept (sameBytes_map (softReset_segs s) fun _ => rfl)
  | rxData data =>
    rcases exec_rxData_cases data s with h' | ⟨_, h'⟩ <;> rw [h'] at h <;> cases h
    exact .kept (sameBytes_of_segs (syncStep_segs data s))
  | rxFail =>
    rcases exec_rxFail_cases s with h' | ⟨_, h'⟩ <;> rw [h'] at h <;> cases h
    exact .kept (sameBytes_fatal _ s)
  | saOpenOk => exact storageAnswer_storeCause (fun _ => .inr (.inr (.inl rfl))) h
  | saOpenFail => exact storageAnswer_storeCause (b := .fail) nofun h
  | wrCmd d a => cases h; exact commandWord_storeCause d a s
  | wrHdr0 d => cases h; exact .kept (sameBytes_writeConfig rfl)
  | wrHdr1 d => cases h; exact .kept (sameBytes_writeConfig rfl)
  | wrBudget d => cases h; exact .kept (sameBytes_writeConfig rfl)
  | wrSegBytes d => cases h; exact .kept (sameBytes_writeConfig rfl)
  | wrSegCount d => cases h; exact .kept (sameBytes_writeConfig rfl)
  | wrIrq d => cases h; exact .kept (sameBytes_of_segs rfl)
  | wrReadonlyOrReserved n d => cases h; exact .kept (sameBytes_of_segs rfl)
  | rd n => cases h; exact .kept (sameBytes_of_segs rfl)
  | read seg off n =>
    rcases exec_read_cases seg off n s with ⟨_, h'⟩ | ⟨_, _, h'⟩ <;> rw [h'] at h <;> cases h
    exact .kept (sameBytes_of_segs rfl)
  | stepCheck =>
    rcases exec_stepCheck_cases s with ⟨code, h'⟩ | h' | ⟨_, h'⟩ <;> rw [h'] at h <;> cases h
    · exact .kept (sameBytes_endSession code s)
    · exact .kept (sameBytes_of_segs rfl)
  | stepDeliver =>
    rcases exec_stepDeliver_cases s with h' | ⟨_, _, _, h'⟩ | ⟨_, h'⟩ <;> rw [h'] at h <;> cases h
    exact .delivered rfl
  | stepRotate a =>
    rcases exec_stepRotate_cases a s with ⟨_, h'⟩ | ⟨_, h'⟩ <;> rw [h'] at h
    · exact rotate_storeCause (fun ha => .inr (.inr (.inr (by rw [ha])))) h
    · cases h
  | stepReset => cases h; exact .kept (sameBytes_map (hardReset_segs s) fun _ => rfl)

/-- A successful open changes no byte but those below SEG_BYTES of the segment it opens, which read zero. -/
theorem readStore_openSegment_ok {i j off : Nat} {s : State}
    (h : readStore (openSegment i .ok toCheck s) j off ≠ readStore s j off) :
    j = i ∧ off < s.segBytes.toNat ∧ readStore (openSegment i .ok toCheck s) j off = 0#8 := by
  unfold readStore at h ⊢
  rw [openSegment_ok_seg] at h ⊢
  split at h
  · rename_i hj
    obtain ⟨rfl, hi⟩ := hj
    rw [if_pos ⟨rfl, hi⟩]
    rw [Memory.read_zeroFill] at h ⊢
    split at h
    · exact absurd rfl h
    · rename_i hoff
      exact ⟨rfl, Nat.not_le.mp hoff, if_neg hoff⟩
  · exact absurd rfl h

/-- DELIVER changes no byte outside the slot at the cursor of segment seg_index. -/
theorem readStore_deliver_ne {j off : Nat} {s : State} (hframe : s.frame.length = Config.frameLen)
    (h : readStore (deliver s) j off ≠ readStore s j off) :
    j = s.segIndex.toNat ∧ slotBase s.cursor ≤ off ∧ off < slotBase s.cursor + Config.slotBytes := by
  by_cases ho : s.rot = .segmentOpen
  · rw [readStore, deliver_seg_of_open ho] at h
    split at h
    · rename_i hj
      obtain ⟨rfl, _⟩ := hj
      rw [Memory.read_write, row_length hframe] at h
      split at h
      · exact ⟨rfl, ‹_›⟩
      · exact absurd rfl h
    · exact absurd rfl h
  · refine absurd (readStore_congr (sameBytes_of_segs ?_ j) off) h
    rw [deliver_segs, append_rejected (s := decodeFrame s) ho]; rfl

/-- Settles O49: of the causes, only DELIVER and a successful open let a byte read otherwise, each in its own range. -/
theorem onlyDeliverAndOpenWriteTheStore : Obligations.OnlyDeliverAndOpenWriteTheStore := by
  intro i s t j off hframe h hne
  cases exec_storeCause h with
  | kept hb => exact absurd (readStore_congr (hb j) off) hne
  | opened u hi hb =>
    rw [← readStore_congr (hb j) off] at hne
    obtain ⟨hj, hoff, hzero⟩ := readStore_openSegment_ok hne
    exact .inr ⟨hi, rfl, rfl, hj, hoff, hzero⟩
  | delivered hi => exact .inl ⟨hi, readStore_deliver_ne hframe hne⟩

end Sys2Proof.Machine

namespace Sys2Proof.Machine

/-! ### No step leaves the segment store (20_memory.md R80) -/

/-- Everything that faults: a DELIVER whose slot is not mapped, and a ROTATE to a segment beyond the store. -/
inductive FaultCause (s : State) : Prop where
  | slotUnmapped (hp : s.ph = .deliver) (ho : s.rot = .segmentOpen) (hm : s.slotMapped = false)
  | beyondStore (hp : s.ph = .rotate) (ho : s.rotationOpens = true) (hi : s.segCountMax ≤ (s.segIndex + 1#32).toNat)

theorem rotate_faultCause {a : Option StorageAnswer} {s : State} {r : Fault} (hp : s.ph = .rotate)
    (h : rotate a s = .fault r) : FaultCause s := by
  rcases rotate_cases a s with ⟨_, h'⟩ | ⟨_, _, h'⟩ | ⟨_, _, _, _, h'⟩ | ⟨ho, hi, h'⟩ <;> rw [h'] at h <;> cases h
  exact .beyondStore hp ho hi

theorem storageAnswer_faultCause {b : StorageAnswer} {s : State} {r : Fault} (h : storageAnswer b s = .fault r) :
    FaultCause s := by
  rcases storageAnswer_cases b s with ⟨_, h'⟩ | ⟨_, hp, _, h'⟩ | h' <;> rw [h'] at h
  · cases h
  · exact rotate_faultCause hp h
  · cases h

theorem exec_faultCause {i : Instr} {s : State} {r : Fault} (h : exec i s = .fault r) : FaultCause s := by
  cases i with
  | stepDeliver =>
    rcases exec_stepDeliver_cases s with h' | ⟨hp, ho, hm, _⟩ | ⟨_, h'⟩
    · rw [h'] at h; cases h
    · exact .slotUnmapped hp ho hm
    · rw [h'] at h; cases h
  | stepRotate a =>
    rcases exec_stepRotate_cases a s with ⟨hp, h'⟩ | ⟨_, h'⟩ <;> rw [h'] at h
    · exact rotate_faultCause hp h
    · cases h
  | saOpenOk => exact storageAnswer_faultCause h
  | saOpenFail => exact storageAnswer_faultCause h
  | rxData data => rcases exec_rxData_cases data s with h' | ⟨_, h'⟩ <;> rw [h'] at h <;> cases h
  | rxFail => rcases exec_rxFail_cases s with h' | ⟨_, h'⟩ <;> rw [h'] at h <;> cases h
  | read seg off n => rcases exec_read_cases seg off n s with ⟨_, h'⟩ | ⟨_, _, h'⟩ <;> rw [h'] at h <;> cases h
  | stepCheck => rcases exec_stepCheck_cases s with ⟨_, h'⟩ | h' | ⟨_, h'⟩ <;> rw [h'] at h <;> cases h
  | _ => cases h

/-- The open segment is active, and its slots fill its length (10_state.md R49, R40). -/
theorem slotMapped_of_open {s : State} (hfits : CapacityFits s) (h : SessionInv s) (hr : s.running = true)
    (ho : s.rot = .segmentOpen) : s.slotMapped = true := by
  obtain ⟨_, hlen, _⟩ := h.mapped (.inl ho)
  obtain ⟨_, hslots, _⟩ := latched_numbers hfits (h.config hr)
  have hactive := (h.active_iff s.segIndex.toNat).mpr ⟨.inl ho, rfl⟩
  have hcursor := h.cursor_open ho
  have hinside : slotBase s.cursor + Config.slotBytes ≤ (s.seg s.segIndex.toNat).len.toNat := by
    rw [hlen, slotBase]; simp only [Config.slotBytes]; omega
  rw [State.slotMapped, hactive, decide_eq_true hinside]; rfl

/-- The segment a rotation opens is one of the store's (10_state.md R39, R49). -/
theorem rotation_inside_store {s : State} (h : Inv s) (hp : s.ph = .rotate) (ho : s.rotationOpens = true) :
    (s.segIndex + 1#32).toNat < s.segCountMax := by
  have hready := readyToOpen_releaseFull h.session h.phase h.store hp ho
  have hlt := hready.index_lt_length h.latch.fits
  rwa [hready.store] at hlt

theorem not_faultCause_of_inv {s : State} (h : Inv s) : ¬ FaultCause s
  | .slotUnmapped hp ho hm => by
    have hmapped := slotMapped_of_open h.latch.fits h.session (running_of_inSession (.inr (.inr (.inl hp)))) ho
    cases hm.symm.trans hmapped
  | .beyondStore hp ho hi => absurd (rotation_inside_store h hp ho) (Nat.not_lt.mpr hi)

/-- Settles O57: the invariant, which does not read the input, shuts out both causes of a fault. -/
theorem noStepFaults : Obligations.NoStepFaults := by
  intro s h r hfault
  rcases step_eq_cases s with ⟨i, rest, h'⟩ | h' | ⟨e, h'⟩ <;> rw [h'] at hfault
  · exact not_faultCause_of_inv (inv_withInput h rest) (exec_faultCause hfault)
  · cases hfault
  · cases hfault

end Sys2Proof.Machine

namespace Sys2Proof.Machine

/-! ### The decoder, format by format (30_encoding.md R110 to R119) -/

/-- The decoder of what follows the format byte. -/
def decodeFormat : Format → List Byte → Decoded
  | .cmd => decodeCmd
  | .link => decodeLink
  | .storage => decodeStorage
  | .hostbusWr => decodeHostbusWr
  | .hostbusRd => decodeHostbusRd
  | .storeRead => decodeStoreRead
  | .internal => decodeInternal
  | .cmdAnswered => decodeCmdAnswered
  | .hostbusWrAnswered => decodeHostbusWrAnswered
  | .internalAnswered => decodeInternalAnswered

/-- The format byte chooses the decoder of the rest. -/
theorem decode_formatTag (f : Format) (bs : List Byte) : decode (formatTag f :: bs) = decodeFormat f bs := by
  cases f <;> rfl

@[simp] theorem decodeCmd_wordBytes (w : Word) (rest : List Byte) :
    decodeCmd (wordBytes w ++ rest) = .ok (commandOf w) rest := by
  simp [decodeCmd]

@[simp] theorem decodeCmdAnswered_start (a : StorageAnswer) (rest : List Byte) :
    decodeCmdAnswered (wordBytes 1#32 ++ (wordBytes (storageAnswerWord a) ++ rest)) = .ok (.cmdStart (some a)) rest := by
  simp [decodeCmdAnswered]

@[simp] theorem decodeStoreRead_wordBytes (seg off n : Word) (rest : List Byte) :
    decodeStoreRead (wordBytes seg ++ (wordBytes off ++ (wordBytes n ++ rest))) = .ok (.read seg off n) rest := by
  simp [decodeStoreRead]

@[simp] theorem decodeInternalAnswered_rotate (a : StorageAnswer) (rest : List Byte) :
    decodeInternalAnswered (2#8 :: (wordBytes (storageAnswerWord a) ++ rest)) = .ok (.stepRotate (some a)) rest := by
  simp [decodeInternalAnswered]

/-! Register accesses (30_encoding.md R110, R111, R113). -/

/-- The register number is offset[7:2] where offset[1:0] is zero, by value. -/
theorem registerNumber_eq (offset : Byte) :
    registerNumber offset = if offset.toNat % 4 = 0 then some (BitVec.ofNat 6 (offset.toNat / 4)) else none := by
  have halign : offset.extractLsb' 0 2 = 0#2 ↔ offset.toNat % 4 = 0 := by
    rw [← BitVec.toNat_inj]; simp
  have hnumber : offset.extractLsb' 2 6 = BitVec.ofNat 6 (offset.toNat / 4) := by
    apply BitVec.eq_of_toNat_eq
    simp [Nat.shiftRight_eq_div_pow]
  simp only [registerNumber, halign, hnumber]

@[simp] theorem registerNumber_registerOffset (n : BitVec 6) : registerNumber (registerOffset n) = some n := by
  have hoffset : (registerOffset n).toNat = n.toNat * 4 := by
    rw [registerOffset, toNat_append_eq_add]; rfl
  rw [registerNumber_eq, hoffset, if_pos (Nat.mul_mod_left ..), Nat.mul_div_cancel _ (by decide), BitVec.ofNat_toNat,
    BitVec.setWidth_eq]

theorem decodeHostbusWr_of_register {offset : Byte} {n : BitVec 6} (h : registerNumber offset = some n) (d : Word)
    (rest : List Byte) : decodeHostbusWr (offset :: (wordBytes d ++ rest)) = .ok (hostWriteOf n d) rest := by
  simp [decodeHostbusWr, h]

theorem decodeHostbusRd_of_register {offset : Byte} {n : BitVec 6} (h : registerNumber offset = some n)
    (rest : List Byte) : decodeHostbusRd (offset :: rest) = .ok (.rd n) rest := by
  simp [decodeHostbusRd, h]

theorem decodeHostbusWr_misaligned {offset : Byte} (h : registerNumber offset = none) (rest : List Byte) :
    decodeHostbusWr (offset :: rest) = .bad .misalignedOffset := by
  simp [decodeHostbusWr, h]

theorem decodeHostbusRd_misaligned {offset : Byte} (h : registerNumber offset = none) (rest : List Byte) :
    decodeHostbusRd (offset :: rest) = .bad .misalignedOffset := by
  simp [decodeHostbusRd, h]

@[simp] theorem decodeHostbusWrAnswered_cmd (d : Word) (a : StorageAnswer) (rest : List Byte) :
    decodeHostbusWrAnswered (registerOffset 0#6 :: (wordBytes d ++ (wordBytes (storageAnswerWord a) ++ rest))) =
      .ok (.wrCmd d (some a)) rest := by
  simp [decodeHostbusWrAnswered, show registerOffset 0#6 = 0#8 from rfl]

/-- The registers whose host write has a meaning of its own (30_encoding.md R113). -/
theorem readonlyOrReserved_iff (n : BitVec 6) : readonlyOrReserved n = true ↔ n.toNat ∉ [0, 2, 3, 4, 5, 6, 12] := by
  unfold readonlyOrReserved
  split <;> simp_all

/-- Every other register's write is ignored. -/
theorem hostWriteOf_readonly {n : BitVec 6} (h : n.toNat ∉ [0, 2, 3, 4, 5, 6, 12]) (d : Word) :
    hostWriteOf n d = .wrReadonlyOrReserved n d := by
  unfold hostWriteOf
  split <;> simp_all

theorem hostWriteOf_writable {n : BitVec 6} (h : n.toNat ∈ [0, 2, 3, 4, 5, 6, 12]) (d : Word) :
    hostWriteOf n d ≠ .wrReadonlyOrReserved n d := by
  unfold hostWriteOf
  split
  case h_8 => simp_all
  all_goals nofun

/-! Link answers (30_encoding.md R117, R118). -/

/-- A LINK answer by the value of its word: RSVD is bits [30:16], FAIL is bit 31 and N is bits [15:0]. -/
theorem decodeLink_wordBytes (w : Word) (bs : List Byte) :
    decodeLink (wordBytes w ++ bs) =
      if w.toNat / 0x10000 % 0x8000 ≠ 0 ∨ (0x80000000 ≤ w.toNat ∧ w.toNat % 0x10000 ≠ 0) then .bad .illFormedLinkAnswer
      else if 0x80000000 ≤ w.toNat then .ok .rxFail bs
      else if bs.length < w.toNat % 0x10000 then .bad .missingBytes
      else .ok (.rxData (bs.take (w.toNat % 0x10000))) (bs.drop (w.toNat % 0x10000)) := by
  have hreserved : w.extractLsb' 16 15 = 0#15 ↔ w.toNat / 0x10000 % 0x8000 = 0 := by
    rw [← BitVec.toNat_inj]; simp [Nat.shiftRight_eq_div_pow]
  have hcount : (w.extractLsb' 0 16).toNat = w.toNat % 0x10000 := by simp
  have hzero : w.extractLsb' 0 16 = 0#16 ↔ w.toNat % 0x10000 = 0 := by
    rw [← BitVec.toNat_inj, hcount]; rfl
  have hfail : w.getLsbD 31 = true ↔ 0x80000000 ≤ w.toNat := by
    have := w.isLt
    rw [BitVec.getLsbD, Nat.testBit_eq_decide_div_mod_eq, decide_eq_true_eq]; omega
  simp only [decodeLink, takeWord_wordBytes, ne_eq, hreserved, hzero, hfail, hcount]
  by_cases hr : w.toNat / 0x10000 % 0x8000 = 0
  · by_cases hf : 0x80000000 ≤ w.toNat <;> simp [hr, hf]
  · simp [hr]

/-- N data bytes follow the word N, and the rest stays. -/
theorem decodeLink_data {data : List Byte} (h : data.length < 65536) (rest : List Byte) :
    decodeLink (wordBytes (BitVec.ofNat 32 data.length) ++ (data ++ rest)) = .ok (.rxData data) rest := by
  have hword : (BitVec.ofNat 32 data.length).toNat = data.length := by
    rw [BitVec.toNat_ofNat]; omega
  have hcount : data.length % 0x10000 = data.length := Nat.mod_eq_of_lt h
  have henough : ¬ (data ++ rest).length < data.length := by simp
  rw [decodeLink_wordBytes, hword, if_neg (by omega), if_neg (by omega), hcount, if_neg henough, List.take_left, List.drop_left]

/-! ### Decode of encode -/

theorem decode_encodeCmd (w : Word) (rest : List Byte) : decode (encodeCmd w ++ rest) = .ok (commandOf w) rest :=
  (decode_formatTag .cmd _).trans (decodeCmd_wordBytes w rest)

theorem decode_encodeHostbusWr (n : BitVec 6) (d : Word) (rest : List Byte) :
    decode (encodeHostbusWr n d ++ rest) = .ok (hostWriteOf n d) rest :=
  (decode_formatTag .hostbusWr _).trans (decodeHostbusWr_of_register (registerNumber_registerOffset n) d rest)

/-- Settles O1: the format byte leads each encoding to its format's decoder, which reads the words back. -/
theorem decodeOfEncodeIsIdentity : Obligations.DecodeOfEncodeIsIdentity := by
  intro i rest hi
  cases i with
  | cmdNop => exact decode_encodeCmd 0#32 rest
  | cmdStart a =>
    cases a with
    | none => exact decode_encodeCmd 1#32 rest
    | some a => simp [encode, decode_formatTag, decodeFormat]
  | cmdCancel => exact decode_encodeCmd 2#32 rest
  | cmdClrerr => exact decode_encodeCmd 3#32 rest
  | cmdSoftreset => exact decode_encodeCmd 4#32 rest
  | rxData data =>
    have hlen : data.length < 65536 := by simpa [Instr.wellFormed] using hi
    simp [encode, decode_formatTag, decodeFormat, decodeLink_data hlen]
  | rxFail => exact (decode_formatTag .link _).trans (decodeLink_wordBytes 0x80000000#32 rest)
  | saOpenOk => rfl
  | saOpenFail => rfl
  | wrCmd d a =>
    cases a with
    | none => exact decode_encodeHostbusWr 0#6 d rest
    | some a => simp [encode, decode_formatTag, decodeFormat]
  | wrHdr0 d => exact decode_encodeHostbusWr 2#6 d rest
  | wrHdr1 d => exact decode_encodeHostbusWr 3#6 d rest
  | wrBudget d => exact decode_encodeHostbusWr 4#6 d rest
  | wrSegBytes d => exact decode_encodeHostbusWr 5#6 d rest
  | wrSegCount d => exact decode_encodeHostbusWr 6#6 d rest
  | wrIrq d => exact decode_encodeHostbusWr 12#6 d rest
  | wrReadonlyOrReserved n d =>
    have hwrite := hostWriteOf_readonly ((readonlyOrReserved_iff n).mp hi) d
    exact (decode_encodeHostbusWr n d rest).trans (congrArg (Decoded.ok · rest) hwrite)
  | rd n => exact (decode_formatTag .hostbusRd _).trans (decodeHostbusRd_of_register (registerNumber_registerOffset n) rest)
  | read seg off n => simp [encode, decode_formatTag, decodeFormat]
  | stepCheck => rfl
  | stepDeliver => rfl
  | stepRotate a =>
    cases a with
    | none => rfl
    | some a => simp [encode, decode_formatTag, decodeFormat]
  | stepReset => rfl

/-- Settles O3: an aligned offset has a register number, and any other offset has none. -/
theorem offsetDecode : Obligations.OffsetDecode := by
  intro offset rest d
  have hbound := offset.isLt
  have hnumber := registerNumber_eq offset
  constructor
  · intro haligned
    rw [if_pos haligned] at hnumber
    exact ⟨_, by rw [BitVec.toNat_ofNat]; omega,
      (decode_formatTag .hostbusRd _).trans (decodeHostbusRd_of_register hnumber rest),
      (decode_formatTag .hostbusWr _).trans (decodeHostbusWr_of_register hnumber d rest)⟩
  · intro hmisaligned
    rw [if_neg hmisaligned] at hnumber
    exact ⟨(decode_formatTag .hostbusRd _).trans (decodeHostbusRd_misaligned hnumber rest),
      (decode_formatTag .hostbusWr _).trans (decodeHostbusWr_misaligned hnumber rest)⟩

/-- Settles O2: the words are decoded one by one. -/
theorem specWordsDecode : Obligations.SpecWordsDecode := by
  unfold Obligations.SpecWordsDecode
  decide

end Sys2Proof.Machine

namespace Sys2Proof.Machine

/-! ### Steps refused, waits, and transactions without effect (00_scope.md R18) -/

theorem step_of_bad {s : State} {e : DecodeError} (hne : s.input ≠ []) (h : decode s.input = .bad e) :
    step s = .refused (.badTransaction e) := by
  simp only [step, fetch_of_input hne, h]

/-- A LINK answer whose decoder refuses it has no step (30_encoding.md R118). -/
theorem step_of_badLink {s : State} {bs : List Byte} {e : DecodeError} (hin : s.input = 0x01#8 :: bs)
    (h : decodeLink bs = .bad e) : step s = .refused (.badTransaction e) :=
  step_of_bad (by simp [hin]) (by rw [hin]; exact (decode_formatTag .link bs).trans h)

/-- Settles O4: the meaning refuses too many bytes; the decoder refuses an ill-formed word and missing bytes. -/
theorem illFormedLinkAnswersHaveNoStep : Obligations.IllFormedLinkAnswersHaveNoStep := by
  refine ⟨fun s data hmax => ?_, fun s w bs hin => ⟨fun hform => ?_, fun hsmall hshort => ?_⟩⟩
  · simp only [exec, execRxData, Nat.not_le.mpr hmax, if_false]
    split <;> rfl
  · refine step_of_badLink hin ?_
    rw [decodeLink_wordBytes, if_pos hform]
  · refine step_of_badLink hin ?_
    rw [decodeLink_wordBytes, if_neg (by omega), if_neg (by omega), if_pos (by omega)]

theorem step_of_noInput {s : State} (h : s.input = []) : step s = controllerStep s := by
  simp only [step, fetch, h]

/-- Settles O6: with nothing to fetch the step is the controller's, which goes by the phase. -/
theorem stepWithoutTransaction : Obligations.StepWithoutTransaction := by
  intro s hin
  rw [step_of_noInput hin, controllerStep]
  refine ⟨fun hp => ?_, fun hp => ?_, fun hp => ?_, fun hp => ?_⟩
  · rw [hp]; rfl
  · rw [hp]; rfl
  · rw [hp]; rfl
  · rcases hp with (hp | hp | hp) | hp <;> rw [hp]

/-- Settles O44: each internal step asks for its phase first. -/
theorem internalStepsNeedTheirPhase : Obligations.InternalStepsNeedTheirPhase := by
  intro s a
  exact ⟨fun hp => if_neg hp, fun hp => if_neg hp, fun hp => if_neg hp⟩

/-- Settles O19: the decoder gives all but the seven registers to WR.READONLY_OR_RESERVED, whose meaning is the same state. -/
theorem readonlyWriteIgnored : Obligations.ReadonlyWriteIgnored := by
  intro s n d
  exact ⟨fun hn => ⟨hostWriteOf_readonly hn d, by rw [hostWriteOf_readonly hn]; rfl⟩, fun hn => hostWriteOf_writable hn d, rfl⟩

/-! ### Register reads (10_state.md R51, 30_encoding.md R112) -/

/-- PARAM is READ_MAX in its low half and KEEP in its high half. -/
theorem param_toNat (s : State) : s.param.toNat = s.readMax + 65536 * s.keep := by
  have := s.param.isLt
  simp only [State.readMax, State.keep, BitVec.extractLsb'_toNat, Nat.shiftRight_eq_div_pow]; omega

theorem irqWord_toNat (s : State) : (irqWord s).toNat = s.irqEn.toNat + 2 * s.irqPend.toNat := by
  simp only [irqWord, toNat_append_eq_add, BitVec.toNat_ofBool, BitVec.toNat_ofNat]; omega

theorem readRegister_reserved {n : BitVec 6} (h : 13 ≤ n.toNat) (s : State) : readRegister n s = 0#32 := by
  unfold readRegister
  split
  case h_13 => rfl
  all_goals omega

/-- Settles O20: the reply is `readRegister`, register by register. HDR1, WIN_LEN, PARAM and IRQ are compared by value; every
other register is a field, STATUS or zero. -/
theorem registerReads : Obligations.RegisterReads := by
  intro s n
  refine ⟨readRegister n s, rfl, ?_, ?_, ?_, ?_, ?_, ?_, ?_, ?_, ?_, ?_, ?_, ?_, ?_, fun hn => readRegister_reserved hn s⟩
  all_goals rintro rfl
  case refine_4 => exact BitVec.toNat_setWidth_of_le (by decide)
  case refine_11 => exact fun hfits => Nat.mod_eq_of_lt hfits
  case refine_12 => exact param_toNat s
  case refine_13 => exact irqWord_toNat s
  all_goals rfl

end Sys2Proof.Machine

namespace Sys2Proof.Machine

/-! ### The place of a row (30_encoding.md R122, R124) -/

/-- Payload bytes taken as samples and written out again are the same bytes. -/
theorem bytesOfSamples_samplesOf {bs : List Byte} (h : bs.length % 4 = 0) : bytesOfSamples (samplesOf bs) = bs := by
  induction bs using samplesOf.induct with
  | case1 b0 b1 b2 b3 rest ih =>
    have hrest : rest.length % 4 = 0 := by simp only [List.length_cons] at h; omega
    rw [samplesOf, show bytesOfSamples (le32 b0 b1 b2 b3 :: samplesOf rest) =
      wordBytes (le32 b0 b1 b2 b3) ++ bytesOfSamples (samplesOf rest) from rfl, wordBytes_le32, ih hrest]
    rfl
  | case2 bs hshort =>
    match bs, hshort, h with
    | [], _, _ => rfl
    | b0 :: b1 :: b2 :: b3 :: rest, hshort, _ => exact (hshort b0 b1 b2 b3 rest rfl).elim

/-- A frame's row is its payload, byte for byte. -/
theorem row_eq_payload {f : List Byte} (h : f.length = Config.frameLen) :
    bytesOfSamples (frameSamples f) = f.drop Config.headerLen :=
  bytesOfSamples_samplesOf (by rw [List.length_drop, h]; rfl)

/-- DELIVER writes the held frame's payload into the slot at the cursor. -/
theorem readStore_deliver_slot {s : State} (ho : s.rot = .segmentOpen) (hframe : s.frame.length = Config.frameLen)
    (hindex : s.segIndex.toNat < s.segs.length) {i : Nat} (hi : i < Config.slotBytes) :
    readStore (deliver s) s.segIndex.toNat (slotBase s.cursor + i) = s.frame.getD (6 + i) 0#8 := by
  rw [readStore, deliver_seg_of_open ho, if_pos ⟨rfl, hindex⟩, Memory.read_write, row_length hframe, if_pos (by omega),
    row_eq_payload hframe, Nat.add_sub_cancel_left]
  simp [List.getD_eq_getElem?_getD]

/-- SW counts the slots before the cursor, segment by segment, so it names the slot at the cursor (10_state.md R54). -/
theorem SessionInv.slot_of_sw {s : State} (h : SessionInv s) (ho : s.rot = .segmentOpen) :
    s.sw.toNat / s.slots.toNat = s.segIndex.toNat ∧ s.sw.toNat % s.slots.toNat = s.cursor.toNat := by
  have hcursor := h.cursor_open ho
  rw [h.count (.inl ho), Nat.mul_comm, Nat.mul_add_div (by omega), Nat.mul_add_mod, Nat.div_eq_of_lt hcursor,
    Nat.mod_eq_of_lt hcursor]
  exact ⟨rfl, rfl⟩

/-- In ph = DELIVER the invariant gives the step its meaning: the slot is mapped. -/
theorem exec_stepDeliver_of_inv {s : State} (h : Inv s) (hp : s.ph = .deliver) : exec .stepDeliver s = .next (deliver s) := by
  have hr : s.running = true := running_of_inSession (.inr (.inr (.inl hp)))
  have hmapped := slotMapped_of_open h.latch.fits h.session hr (h.phase.open_of_sync (.inr hp))
  simp [exec, execStepDeliver, hp, hmapped]

/-- Settles O58: SW names the slot at the cursor, which DELIVER fills with the payload. The invariant before the row bounds it by
the budget, and the invariant after it by the capacity. -/
theorem rowLocation : Obligations.RowLocation := by
  intro s h hp
  have ho : s.rot = .segmentOpen := h.phase.open_of_sync (.inr hp)
  obtain ⟨hseg, hslot⟩ := h.session.slot_of_sw ho
  obtain ⟨hpresent, _⟩ := h.session.mapped (.inl ho)
  have hbudget := h.session.sw_lt_budget (.inr hp)
  have hsw : (deliver s).sw.toNat = s.sw.toNat + 1 := by rw [deliver_sw, toNat_add_one_of_lt hbudget]
  have hcapacity := (sessionInv_deliver h.latch.fits h.session h.phase hp).sw_le_capacity
  rw [deliver_capacity] at hcapacity
  rw [hseg, hslot]
  refine ⟨deliver s, exec_stepDeliver_of_inv h hp, hsw, by omega, hcapacity, fun i hi => ?_, fun j off hout => ?_⟩
  · exact readStore_deliver_slot ho h.session.frame_length (lt_length_of_present hpresent) hi
  · by_contra hne
    exact hout (readStore_deliver_ne h.session.frame_length hne)

end Sys2Proof.Machine

namespace Sys2Proof.Machine

/-! ### The link agent's answers (40_link_interface.md R151 to R156) -/

/-- RX.DATA has its step exactly in SYNC with at most READ_MAX bytes (40_link_interface.md R151, R152). -/
theorem exec_rxData_eq_next_iff {data : List Byte} {s t : State} :
    exec (.rxData data) s = .next t ↔ s.ph = .sync ∧ data.length ≤ s.readMax ∧ syncStep data s = t := by
  simp only [exec, execRxData]
  by_cases hp : s.ph = .sync
  · by_cases hn : data.length ≤ s.readMax <;> simp [hp, hn]
  · simp [hp]

/-- No case of a SYNC step reads cancel_req or writes it (41_frame_sync.md R172). -/
theorem syncStep_setCancelReq (data : List Byte) (b : Bool) (s : State) :
    syncStep data { s with cancelReq := b } = { syncStep data s with cancelReq := b } := by
  have hhdr : State.hdr { s with cancelReq := b } = s.hdr := hdr_congr rfl rfl
  have hkeep : State.keep { s with cancelReq := b } = s.keep := keep_congr rfl
  simp only [syncStep, hhdr, hkeep]
  cases firstMatch s.hdr (s.window ++ data) with
  | none => rfl
  | some o => dsimp only; split <;> rfl

/-- The fatal path clears every active flag of the store and nothing else (60_exceptions.md R316). -/
theorem seg_fatal (code : ExitCode) (s : State) (i : Nat) : (fatal code s).seg i = { s.seg i with active := false } :=
  (seg_congr (s := releaseActive s) (fatal_segs code s) i).trans (seg_releaseActive s i)

/-- Settles O32: the guard of RX.DATA reads the phase and READ_MAX only, and its SYNC step commutes with cancel_req. -/
theorem syncIgnoresCancel : Obligations.SyncIgnoresCancel := by
  intro s t data h
  obtain ⟨hp, hn, rfl⟩ := exec_rxData_eq_next_iff.mp h
  exact ⟨syncStep_cancelReq data s, fun b => exec_rxData_eq_next_iff.mpr ⟨hp, hn, syncStep_setCancelReq data b s⟩⟩

/-- Settles O26: RX.FAIL in SYNC is the fatal path, which releases the active segment. -/
theorem linkFailureIsFatal : Obligations.LinkFailureIsFatal := by
  intro s hp
  have hstep : exec .rxFail s = .next (fatal .linkFailure s) := if_pos hp
  exact ⟨fatal .linkFailure s, hstep, rfl, seg_fatal .linkFailure s⟩

/-- Settles O27: both answers of the link agent ask for the phase SYNC first. -/
theorem noLinkStepOutsideSync : Obligations.NoLinkStepOutsideSync := by
  intro s data hp
  exact ⟨if_neg hp, if_neg hp⟩

end Sys2Proof.Machine

namespace Sys2Proof.Machine

/-! ### A bounded window buffer never overflows (41_frame_sync.md R178) -/

/-- What the two forms of W leave for an answer: after the append at most WCAP bytes. -/
theorem append_length_le_wcap {s : State} (h : WindowInv s) (hp : s.ph = .sync) {data : List Byte}
    (hn : data.length ≤ s.readMax) : (s.window ++ data).length ≤ s.wcap := by
  rw [List.length_append, State.wcap]
  rcases h.syncForm hp with hkept | ⟨o, _, hshort, hplace⟩
  · simp only [Config.frameLen]; omega
  · simp only [Config.frameLen] at hshort ⊢; omega

/-- Settles O54: every change keeps the two forms, and each form leaves room for one answer. -/
theorem windowInvariantKept : Obligations.WindowInvariantKept := by
  intro s h
  refine ⟨fun t hstep => ?_, fun hp data hn => append_length_le_wcap h hp hn⟩
  obtain ⟨rest, c⟩ := step_change hstep
  exact windowInv_change (s := { s with input := rest }) { h with } c

end Sys2Proof.Machine

namespace Sys2Proof.Machine

/-! ### Header occurrences and the first of them (41_frame_sync.md R171) -/

/-- The scan passes over no occurrence: none stands before the offset it answers. -/
theorem not_prefix_drop_of_lt_firstMatch {hdr w : List Byte} {o j : Nat} (h : firstMatch hdr w = some o) (hj : j < o) :
    ¬ hdr <+: w.drop j := by
  induction w generalizing o j with
  | nil => cases h
  | cons b w ih =>
    rw [firstMatch_cons] at h
    split at h
    · cases h; omega
    · rename_i hfirst
      obtain ⟨k, hk, rfl⟩ := Option.map_eq_some_iff.mp h
      cases j with
      | zero => exact hfirst
      | succ j => exact ih hk (by omega)

theorem firstMatch_eq_none_iff {hdr w : List Byte} (hlen : hdr.length = 6) :
    firstMatch hdr w = none ↔ ∀ o, ¬ HeaderAt hdr w o := by
  have hne : hdr ≠ [] := List.ne_nil_of_length_pos (by omega)
  rw [← Option.not_isSome_iff_eq_none, firstMatch_isSome_iff hne, not_exists]
  simp only [headerAt_iff_prefix_drop hlen]

theorem headerAt_of_firstMatch {hdr w : List Byte} (hlen : hdr.length = 6) {o : Nat} (h : firstMatch hdr w = some o) :
    HeaderAt hdr w o :=
  (headerAt_iff_prefix_drop hlen o).mpr (prefix_drop_of_firstMatch h)

theorem firstMatch_eq_some_iff {hdr w : List Byte} (hlen : hdr.length = 6) {o : Nat} :
    firstMatch hdr w = some o ↔ HeaderAt hdr w o ∧ ∀ j, j < o → ¬ HeaderAt hdr w j := by
  constructor
  · intro h
    refine ⟨headerAt_of_firstMatch hlen h, fun j hj => ?_⟩
    rw [headerAt_iff_prefix_drop hlen]
    exact not_prefix_drop_of_lt_firstMatch h hj
  · rintro ⟨hat, hleast⟩
    cases h : firstMatch hdr w with
    | none => exact absurd hat ((firstMatch_eq_none_iff hlen).mp h o)
    | some k =>
      have hko : ¬ k < o := fun hlt => hleast k hlt (headerAt_of_firstMatch hlen h)
      have hok : ¬ o < k := fun hlt =>
        not_prefix_drop_of_lt_firstMatch h hlt ((headerAt_iff_prefix_drop hlen o).mp hat)
      congr 1; omega

/-- Settles O28: the scan finds an occurrence when there is one, and passes over none before it. -/
theorem firstMatchIsLeast : Obligations.FirstMatchIsLeast :=
  fun _ _ hlen => ⟨fun _ => firstMatch_eq_some_iff hlen, firstMatch_eq_none_iff hlen⟩

/-! ### Occurrences under append and trim (41_frame_sync.md R177, R179) -/

/-- Six bytes that lie whole in the old window are read there. -/
theorem headerAt_of_append {hdr w data : List Byte} {o : Nat} (h : HeaderAt hdr (w ++ data) o) (hin : o + 6 ≤ w.length) :
    HeaderAt hdr w o := by
  obtain ⟨_, hbytes⟩ := h
  exact ⟨hin, fun i hi => (List.getElem?_append_left (by omega)).symm.trans (hbytes i hi)⟩

/-- After a miss an occurrence needs a new byte: it starts in the last five old bytes or later. -/
theorem length_le_of_headerAt_append {hdr w data : List Byte} {o : Nat} (hlen : hdr.length = 6)
    (hmiss : firstMatch hdr w = none) (h : HeaderAt hdr (w ++ data) o) : w.length ≤ o + 5 := by
  by_contra hlt
  exact (firstMatch_eq_none_iff hlen).mp hmiss o (headerAt_of_append h (by omega))

/-- Settles O29: the scan reads a match's bytes in the old window, and a miss has excluded every offset there. -/
theorem firstMatchStableUnderAppend : Obligations.FirstMatchStableUnderAppend :=
  fun _ _ data _ hlen =>
    ⟨fun h => firstMatch_append h data,
      fun hmiss h => length_le_of_headerAt_append hlen hmiss (headerAt_of_firstMatch hlen h)⟩

theorem headerAt_drop {hdr : List Byte} (hlen : hdr.length = 6) (w : List Byte) (d o : Nat) :
    HeaderAt hdr (w.drop d) o ↔ HeaderAt hdr w (d + o) := by
  rw [headerAt_iff_prefix_drop hlen, headerAt_iff_prefix_drop hlen, List.drop_drop]

/-- Bytes dropped before the first match move its offset and nothing else. -/
theorem firstMatch_drop {hdr w : List Byte} {o d : Nat} (hlen : hdr.length = 6) (h : firstMatch hdr w = some o)
    (hd : d ≤ o) : firstMatch hdr (w.drop d) = some (o - d) := by
  obtain ⟨hat, hleast⟩ := (firstMatch_eq_some_iff hlen).mp h
  refine (firstMatch_eq_some_iff hlen).mpr ⟨?_, fun j hj => ?_⟩
  · rw [headerAt_drop hlen, Nat.add_sub_cancel' hd]; exact hat
  · rw [headerAt_drop hlen]; exact hleast _ (by omega)

theorem frameAt_drop {w : List Byte} {o d : Nat} (hd : d ≤ o) : frameAt (w.drop d) (o - d) = frameAt w o := by
  rw [frameAt, frameAt, List.drop_drop, Nat.add_sub_cancel' hd]

theorem frameAt_append {w : List Byte} {o : Nat} (h : Config.frameLen ≤ w.length - o) (data : List Byte) :
    frameAt (w ++ data) o = frameAt w o := by
  have hpos : 0 < Config.frameLen := by decide
  rw [frameAt, frameAt, List.drop_append_of_le_length (by omega),
    List.take_append_of_le_length (by rw [List.length_drop]; exact h)]

theorem tailBytes_append (k : Nat) (w data : List Byte) : tailBytes k w ++ data = (w ++ data).drop (w.length - k) :=
  (List.drop_append_of_le_length (Nat.sub_le ..)).symm

/-- A trim that keeps the first match's offset changes neither the match nor the frame that later bytes complete. -/
theorem scan_tailBytes_append {hdr w data : List Byte} {k o : Nat} (hlen : hdr.length = 6)
    (h : firstMatch hdr (w ++ data) = some o) (hkept : w.length - k ≤ o) :
    firstMatch hdr (tailBytes k w ++ data) = some (o - (w.length - k)) ∧
      frameAt (tailBytes k w ++ data) (o - (w.length - k)) = frameAt (w ++ data) o := by
  rw [tailBytes_append]
  exact ⟨firstMatch_drop hlen h hkept, frameAt_drop hkept⟩

/-- Settles O30: what a miss leaves to complete starts in the last five bytes, which the trim keeps. -/
theorem missTrimLosesNoHeader : Obligations.MissTrimLosesNoHeader := by
  intro hdr w data k o hlen hk hmiss
  have hlate : ∀ o', HeaderAt hdr (w ++ data) o' → w.length ≤ o' + 5 ∧ w.length - k ≤ o' := fun o' hat => by
    have := length_le_of_headerAt_append hlen hmiss hat
    omega
  exact ⟨hlate, fun h => scan_tailBytes_append hlen h (hlate o (headerAt_of_firstMatch hlen h)).2⟩

end Sys2Proof.Machine

namespace Sys2Proof.Machine

/-! ### The SYNC step, case by case (41_frame_sync.md R172 to R175) -/

theorem syncStep_of_miss {s : State} {data : List Byte} (h : firstMatch s.hdr (s.window ++ data) = none) :
    syncStep data s = { s with window := tailBytes s.keep (s.window ++ data) } := by
  simp only [syncStep, h]

theorem syncStep_of_wait {s : State} {data : List Byte} {o : Nat} (h : firstMatch s.hdr (s.window ++ data) = some o)
    (hshort : (s.window ++ data).length - o < Config.frameLen) :
    syncStep data s = { s with window := s.window ++ data } := by
  simp only [syncStep, h, if_pos hshort]

theorem syncStep_of_frame {s : State} {data : List Byte} {o : Nat} (h : firstMatch s.hdr (s.window ++ data) = some o)
    (hwhole : Config.frameLen ≤ (s.window ++ data).length - o) :
    syncStep data s =
      { s with frame := frameAt (s.window ++ data) o, window := tailBytes s.keep (s.window ++ data), fh := true,
               ph := .deliver } := by
  simp only [syncStep, h, if_neg (Nat.not_lt.mpr hwhole)]

/-- Settles O23: the scan finds nothing, and the miss trims. -/
theorem syncMiss : Obligations.SyncMiss := by
  intro s data hp hn hnone
  have hmiss := (firstMatch_eq_none_iff (hdr_length s)).mpr hnone
  exact exec_rxData_eq_next_iff.mpr ⟨hp, hn, syncStep_of_miss hmiss⟩

/-- Settles O24: the scan finds the least occurrence, which has no whole frame yet. -/
theorem syncWait : Obligations.SyncWait := by
  intro s data o hp hn hat hleast hshort
  have hmatch := (firstMatch_eq_some_iff (hdr_length s)).mpr ⟨hat, hleast⟩
  have hlt : (s.window ++ data).length - o < Config.frameLen := by simp only [Config.frameLen]; omega
  exact exec_rxData_eq_next_iff.mpr ⟨hp, hn, syncStep_of_wait hmatch hlt⟩

theorem frameAt_getElem? (w : List Byte) (o : Nat) {i : Nat} (hi : i < Config.frameLen) :
    (frameAt w o)[i]? = w[o + i]? := by
  rw [frameAt, List.getElem?_take_of_lt hi, List.getElem?_drop]

/-- Settles O25: the scan finds the least occurrence, and the frame cut out there is whole and begins with it. -/
theorem syncEmission : Obligations.SyncEmission := by
  intro s data o hp hn hat hleast hlen
  have hmatch := (firstMatch_eq_some_iff (hdr_length s)).mpr ⟨hat, hleast⟩
  have hwhole : Config.frameLen ≤ (s.window ++ data).length - o := by simp only [Config.frameLen]; omega
  exact ⟨_, exec_rxData_eq_next_iff.mpr ⟨hp, hn, syncStep_of_frame hmatch hwhole⟩, rfl, frameAt_length hwhole,
    fun i hi => frameAt_getElem? _ o hi, frameAddress_frameAt hmatch⟩

/-! ### Re-emission (41_frame_sync.md R181) -/

/-- A SYNC step that ends in DELIVER is an emission. -/
theorem frameLen_le_of_syncStep_deliver {s : State} {data : List Byte} {o : Nat} (hp : s.ph = .sync)
    (h : firstMatch s.hdr (s.window ++ data) = some o) (hd : (syncStep data s).ph = .deliver) :
    Config.frameLen ≤ (s.window ++ data).length - o := by
  by_contra hshort
  rw [syncStep_of_wait h (Nat.not_le.mp hshort)] at hd
  cases hp.symm.trans hd

/-- Settles O31: the kept tail holds the emitted frame whole from its header on, and no earlier match. -/
theorem frameIsEmittedAgain : Obligations.FrameIsEmittedAgain := by
  intro s t u data data' o hp hmatch hkept hstep ht hu hwindow hhdr0 hhdr1 _ hn
  obtain ⟨_, _, rfl⟩ := exec_rxData_eq_next_iff.mp hstep
  have hwhole := frameLen_le_of_syncStep_deliver hp hmatch ht
  have hemitted := syncStep_of_frame hmatch hwhole
  have hhdr : u.hdr = s.hdr := hdr_congr (hhdr0.trans (syncStep_hdr0 data s)) (hhdr1.trans (syncStep_hdr1 data s))
  have htail : u.window = tailBytes s.keep (s.window ++ data) := by rw [hwindow, hemitted]
  obtain ⟨hagain, hframe⟩ :=
    scan_tailBytes_append (k := s.keep) (hdr_length s) (firstMatch_append hmatch data') (by omega)
  rw [← hhdr, ← htail] at hagain
  rw [← htail, frameAt_append hwhole] at hframe
  have hwhole' : Config.frameLen ≤ (u.window ++ data').length - (o - ((s.window ++ data).length - s.keep)) := by
    rw [List.length_append (as := u.window), htail, tailBytes_length]; omega
  have hnext := syncStep_of_frame hagain hwhole'
  refine ⟨_, exec_rxData_eq_next_iff.mpr ⟨hu, hn, hnext⟩, rfl, ?_⟩
  rw [hemitted]; exact hframe

end Sys2Proof.Machine

namespace Sys2Proof.Machine

/-! ### The lanes of a row and the encoder (42_decode.md R200, R204, R205) -/

/-- Lane k is assembled from payload bytes 4k to 4k+3 and from no others (42_decode.md R205). -/
theorem samplesOf_getElem? {bs : List Byte} {k : Nat} (h : 4 * k + 4 ≤ bs.length) :
    (samplesOf bs)[k]? =
      some (le32 (bs.getD (4 * k) 0#8) (bs.getD (4 * k + 1) 0#8) (bs.getD (4 * k + 2) 0#8) (bs.getD (4 * k + 3) 0#8)) := by
  induction bs using samplesOf.induct generalizing k with
  | case1 b0 b1 b2 b3 rest ih =>
    cases k with
    | zero => rfl
    | succ k =>
      have hrest : 4 * k + 4 ≤ rest.length := by simp only [List.length_cons] at h; omega
      exact ih hrest
  | case2 bs hshort =>
    match bs, hshort, h with
    | b0 :: b1 :: b2 :: b3 :: rest, hshort, _ => exact (hshort b0 b1 b2 b3 rest rfl).elim

/-- A frame of FRAME_LEN bytes has one lane for each of its row's 128 samples (30_encoding.md R122). -/
theorem frameSamples_length {f : List Byte} (h : f.length = Config.frameLen) : (frameSamples f).length = 128 := by
  rw [frameSamples, samplesOf_length, List.length_drop, h]; rfl

/-- Byte i of the payload is frame byte 6+i (30_encoding.md R122). -/
theorem payload_getD (f : List Byte) {i j : Nat} (h : j = 6 + i) :
    (f.drop Config.headerLen).getD i 0#8 = f.getD j 0#8 := by
  simp [h, List.getD_eq_getElem?_getD]

/-- Lane k of a frame is assembled from frame bytes 6+4k to 9+4k (42_decode.md R200). -/
theorem frameSamples_getElem? {f : List Byte} (h : f.length = Config.frameLen) {k : Nat} (hk : k < 128) :
    (frameSamples f)[k]? =
      some (le32 (f.getD (6 + 4 * k) 0#8) (f.getD (7 + 4 * k) 0#8) (f.getD (8 + 4 * k) 0#8) (f.getD (9 + 4 * k) 0#8)) := by
  have hlane : 4 * k + 4 ≤ (f.drop Config.headerLen).length := by
    simp only [List.length_drop, h, Config.frameLen, Config.headerLen]; omega
  rw [frameSamples, samplesOf_getElem? hlane, payload_getD f (j := 6 + 4 * k) rfl,
    payload_getD f (j := 7 + 4 * k) (by omega), payload_getD f (j := 8 + 4 * k) (by omega),
    payload_getD f (j := 9 + 4 * k) (by omega)]

/-- Settles O33: decoding writes the packet registers only, and each lane is its own four frame bytes. -/
theorem decodeLanes : Obligations.DecodeLanes := by
  intro s hframe
  exact ⟨rfl, rfl, frameSamples_length hframe, fun k hk => frameSamples_getElem? hframe hk⟩

theorem bytesOfSamples_cons (w : Word) (ws : List Word) : bytesOfSamples (w :: ws) = wordBytes w ++ bytesOfSamples ws :=
  rfl

/-- A word's bytes before the others make the first sample. -/
theorem samplesOf_wordBytes_append (w : Word) (bs : List Byte) : samplesOf (wordBytes w ++ bs) = w :: samplesOf bs :=
  congrArg (· :: samplesOf bs) (le32_extract w)

/-- Samples written out as bytes and taken as samples again are the same words, bit for bit. -/
theorem samplesOf_bytesOfSamples (ws : List Word) : samplesOf (bytesOfSamples ws) = ws := by
  induction ws with
  | nil => rfl
  | cons w ws ih => rw [bytesOfSamples_cons, samplesOf_wordBytes_append, ih]

section
variable {addr : List Byte} (haddr : addr.length = Config.headerLen) (ws : List Word)
include haddr

/-- An address of HEADER_LEN bytes stands whole before the row, so the encoder's cut does nothing. -/
theorem encodeFrame_eq : encodeFrame addr ws = addr ++ bytesOfSamples ws := by
  rw [encodeFrame, List.take_of_length_le haddr.le]

theorem encodeFrame_length : (encodeFrame addr ws).length = 6 + 4 * ws.length := by
  rw [encodeFrame_eq haddr, List.length_append, haddr, bytesOfSamples_length]

theorem frameAddress_encodeFrame : frameAddress (encodeFrame addr ws) = addr := by
  rw [encodeFrame_eq haddr, frameAddress, List.take_left' haddr]

theorem frameSamples_encodeFrame : frameSamples (encodeFrame addr ws) = ws := by
  rw [encodeFrame_eq haddr, frameSamples, List.drop_left' haddr, samplesOf_bytesOfSamples]

end

/-- Settles O34: HDR is HEADER_LEN bytes long, so decoding cuts an encoded row between its address and its samples. -/
theorem decodeOfEncodedFrame : Obligations.DecodeOfEncodedFrame := by
  intro s samples hlen
  have hlength := encodeFrame_length (hdr_length s) samples
  exact ⟨by rw [hlength, hlen], frameSamples_encodeFrame (hdr_length s) samples,
    frameAddress_encodeFrame (hdr_length s) samples⟩

end Sys2Proof.Machine

namespace Sys2Proof.Machine

/-! ### The rotator's answers (43_storage_rotator.md R220 to R223) -/

/-- Beyond SEG_COUNT_MAX nothing exists (10_state.md R49). -/
theorem seg_of_length_le {s : State} {i : Nat} (h : s.segs.length ≤ i) : s.seg i = Segment.absent :=
  List.getD_eq_default _ _ h

/-- An entry outside the store is not active, so its release needs no bound. -/
theorem seg_storeRelease_self (i : Nat) (s : State) : (storeRelease i s).seg i = { s.seg i with active := false } := by
  rcases Nat.lt_or_ge i s.segs.length with h | h
  · rw [seg_storeRelease, if_pos ⟨rfl, h⟩]
  · rw [seg_storeRelease, if_neg fun hi => Nat.not_lt.mpr h hi.2, seg_of_length_le h]; rfl

/-- The first half of ROTATE releases the full segment. -/
theorem seg_releaseFull_self (s : State) :
    (releaseFull s).seg s.segIndex.toNat = { s.seg s.segIndex.toNat with active := false } := seg_storeRelease_self _ s

theorem seg_releaseFull_of_ne {s : State} {j : Nat} (h : j ≠ s.segIndex.toNat) : (releaseFull s).seg j = s.seg j :=
  (seg_storeRelease s.segIndex.toNat j s).trans (if_neg fun hj => h hj.1)

/-- What the first half of ROTATE keeps of every entry. -/
theorem releaseFull_seg_kept (s : State) (j : Nat) :
    ((releaseFull s).seg j).present = (s.seg j).present ∧ ((releaseFull s).seg j).len = (s.seg j).len := by
  by_cases h : j = s.segIndex.toNat
  · rw [h, seg_releaseFull_self]; exact ⟨rfl, rfl⟩
  · rw [seg_releaseFull_of_ne h]; exact ⟨rfl, rfl⟩

/-- The segment that ROTATE opens is not the one it releases, at the wrap of seg_index too. -/
theorem toNat_ne_toNat_add_one (a : Word) : a.toNat ≠ (a + 1#32).toNat := by bv_omega

/-- A failed open changes one entry's existence, then the fatal path releases what is active. -/
theorem openSegment_fail_seg (i j : Nat) (s : State) :
    (openSegment i .fail toCheck s).seg j =
      { (setSeg i { s.seg i with present := false } s).seg j with active := false } := seg_fatal _ _ j

theorem openSegment_fail_seg_len (i j : Nat) (s : State) : ((openSegment i .fail toCheck s).seg j).len = (s.seg j).len := by
  rw [openSegment_fail_seg, seg_setSeg]
  split
  · rename_i hj; rw [hj.1]
  · rfl

theorem openSegment_fail_seg_present_of_ne {i j : Nat} (h : j ≠ i) (s : State) :
    ((openSegment i .fail toCheck s).seg j).present = (s.seg j).present := by
  rw [openSegment_fail_seg, seg_setSeg, if_neg fun hj => h hj.1]

theorem rotationOpens_iff (s : State) : s.rotationOpens = true ↔ s.segIndex + 1#32 ≠ s.segCount := bne_iff_ne

theorem rotate_of_last {s : State} (h : s.segIndex + 1#32 = s.segCount) (a : Option StorageAnswer) :
    rotate a s = .next { releaseFull s with rot := .terminated, ph := .check } :=
  if_neg fun ho => (rotationOpens_iff s).mp ho h

theorem rotate_unanswered {s : State} (h : s.segIndex + 1#32 ≠ s.segCount) : rotate none s = .next s :=
  if_pos ((rotationOpens_iff s).mpr h)

/-- ROTATE answered: the full segment is released, then the next one is opened. -/
theorem rotate_answered {s : State} (h : s.segIndex + 1#32 ≠ s.segCount) (hin : (s.segIndex + 1#32).toNat < s.segCountMax)
    (b : StorageAnswer) :
    rotate (some b) s = .next (openSegment (s.segIndex + 1#32).toNat b toCheck (releaseFull s)) :=
  (if_pos ((rotationOpens_iff s).mpr h)).trans (if_pos hin)

theorem exec_stepRotate {s : State} (hp : s.ph = .rotate) (a : Option StorageAnswer) :
    exec (.stepRotate a) s = rotate a s := if_pos hp

/-- The transaction by which the storage agent gives an answer of its own (43_storage_rotator.md R220). -/
def storageAnswerInstr : StorageAnswer → Instr
  | .ok => .saOpenOk
  | .fail => .saOpenFail

theorem exec_storageAnswerInstr (b : StorageAnswer) (s : State) : exec (storageAnswerInstr b) s = storageAnswer b s := by
  cases b <;> rfl

/-- With no START waiting, a rotation that opens takes the answer. -/
theorem storageAnswer_of_rotation {s : State} (hw : s.startWaiting = false) (hp : s.ph = .rotate)
    (h : s.segIndex + 1#32 ≠ s.segCount) (b : StorageAnswer) : storageAnswer b s = rotate (some b) s :=
  (if_neg (by simp [hw])).trans (if_pos ⟨hp, (rotationOpens_iff s).mpr h⟩)

theorem storageAnswer_refused {s : State} (hw : s.startWaiting = false)
    (h : s.ph ≠ .rotate ∨ s.segIndex + 1#32 = s.segCount) (b : StorageAnswer) :
    storageAnswer b s = .refused .noOpenRequested := by
  have hnone : ¬ (s.ph = .rotate ∧ s.rotationOpens = true) := by
    rintro ⟨hp, ho⟩
    exact h.elim (· hp) ((rotationOpens_iff s).mp ho)
  exact (if_neg (by simp [hw])).trans (if_neg hnone)

/-- The answer that comes with STEP.ROTATE and the one that comes later do the same (log entry 2). -/
theorem exec_rotate_answered {s : State} {i : Instr} {b : StorageAnswer} (hp : s.ph = .rotate)
    (h : s.segIndex + 1#32 ≠ s.segCount) (hin : (s.segIndex + 1#32).toNat < s.segCountMax)
    (hi : i = .stepRotate (some b) ∨ (i = storageAnswerInstr b ∧ s.startWaiting = false)) :
    exec i s = .next (openSegment (s.segIndex + 1#32).toNat b toCheck (releaseFull s)) := by
  rcases hi with rfl | ⟨rfl, hw⟩
  · rw [exec_stepRotate hp, rotate_answered h hin]
  · rw [exec_storageAnswerInstr, storageAnswer_of_rotation hw hp h, rotate_answered h hin]

/-- Settles O40: ROTATE at the last segment only releases, whatever the answer. -/
theorem rotateTerminates : Obligations.RotateTerminates := by
  intro s a hp hlast _
  exact ⟨_, (exec_stepRotate hp a).trans (rotate_of_last hlast a), rfl, seg_releaseFull_self s,
    fun _ hj => seg_releaseFull_of_ne hj⟩

/-- Settles O41: the release keeps the entry's bytes, and the open replaces the next entry and no other. -/
theorem rotateOpensTheNextSegment : Obligations.RotateOpensTheNextSegment := by
  intro s i hp hopens hlen hin hi
  have hinStore : (s.segIndex + 1#32).toNat < (releaseFull s).segs.length :=
    hin.trans_eq (hlen.symm.trans (segs_length_storeRelease s.segIndex.toNat s).symm)
  have hopened := (openSegment_ok_seg (s.segIndex + 1#32).toNat (s.segIndex + 1#32).toNat (releaseFull s)).trans
    (if_pos ⟨rfl, hinStore⟩)
  have hother : ∀ j, j ≠ (s.segIndex + 1#32).toNat →
      (openSegment (s.segIndex + 1#32).toNat .ok toCheck (releaseFull s)).seg j = (releaseFull s).seg j :=
    fun j hj => (openSegment_ok_seg ..).trans (if_neg fun h => hj h.1)
  refine ⟨_, exec_rotate_answered (b := .ok) hp hopens hin hi, rfl, ?_, ?_, ?_, ?_, fun off => ?_, fun j hne hne' => ?_⟩
  · rw [hother _ (toNat_ne_toNat_add_one _), seg_releaseFull_self]
  · rw [hopened]
  · rw [hopened]
  · rw [hopened]; rfl
  · rw [← readStore_congr (sameBytes_storeRelease s.segIndex.toNat s _)]
    exact readStore_storeOpen hinStore off
  · rw [hother j hne', seg_releaseFull_of_ne hne]

/-- Settles O42: the failed open and the fatal path change bits of the entries, and no length and no byte. -/
theorem rotateOpenFailureIsFatal : Obligations.RotateOpenFailureIsFatal := by
  intro s i hp hopens _ hin hi
  have hbytes : SameBytes s (openSegment (s.segIndex + 1#32).toNat .fail toCheck (releaseFull s)) :=
    SameBytes.trans (t := releaseFull s) (sameBytes_storeRelease s.segIndex.toNat s) (sameBytes_openSegment_fail _ _)
  refine ⟨_, exec_rotate_answered (b := .fail) hp hopens hin hi, ?_, openSegment_fail_seg_present _ _,
    fun j => ⟨?_, ?_⟩, fun j hj => ?_, fun j => readStore_congr (hbytes j)⟩
  · simp
  · rw [openSegment_fail_seg]
  · rw [openSegment_fail_seg_len, (releaseFull_seg_kept s j).2]
  · rw [openSegment_fail_seg_present_of_ne hj, (releaseFull_seg_kept s j).1]

/-- Settles O43: a rotation that opens waits for its answer, and an answer needs such a rotation or a waiting START. -/
theorem openWaitsForItsAnswer : Obligations.OpenWaitsForItsAnswer := by
  intro s
  refine ⟨fun hp hopens => ?_, fun hw h => ⟨storageAnswer_refused hw h .ok, storageAnswer_refused hw h .fail⟩⟩
  rw [exec_stepRotate hp, rotate_unanswered hopens]

/-- Settles O39: DELIVER decodes, its append is rejected, and what it does after that leaves the store alone. -/
theorem appendRejectedWithoutOpenSegment : Obligations.AppendRejectedWithoutOpenSegment := by
  intro s hrot
  refine ⟨append_rejected hrot, fun hp => ⟨deliver s, ?_, ?_, ?_, ?_⟩⟩
  · exact (if_pos hp).trans (if_neg fun h => hrot h.1)
  · rw [deliver_segs, append_rejected (s := decodeFrame s) hrot]; rfl
  · rw [deliver_cursor, append_rejected (s := decodeFrame s) hrot]; rfl
  · rw [deliver_rot, append_rejected (s := decodeFrame s) hrot]; rfl

/-! ### START and its answer (45_host_commands.md R282; log entry 2) -/

section
variable {s : State} (hs : Stopped s) (hlegal : LegalConfig s)
include hs hlegal

theorem startCommand_unanswered : startCommand none s = { s with startWaiting := true } := by
  rw [startCommand, not_running_of_stopped hs, (configLegal_iff s).mpr hlegal]; rfl

theorem startCommand_answered (b : StorageAnswer) : startCommand (some b) s = startSession b s := by
  rw [startCommand, not_running_of_stopped hs, (configLegal_iff s).mpr hlegal]; rfl

/-- START ends the wait before it opens segment 0, so its effect does not depend on whether it waited. -/
theorem storageAnswer_of_waiting (b : StorageAnswer) :
    storageAnswer b { s with startWaiting := true } = .next (startSession b s) :=
  congrArg Host.Outcome.next (startCommand_answered (s := { s with startWaiting := true }) hs hlegal b)

theorem exec_cmdStart_answered (b : StorageAnswer) : exec (.cmdStart (some b)) s = .next (startSession b s) :=
  congrArg Host.Outcome.next (startCommand_answered hs hlegal b)

end

theorem startSession_startWaiting (b : StorageAnswer) (s : State) : (startSession b s).startWaiting = false := by
  cases b <;> rfl

/-- Settles O11: both answers run the START that waits, and either outcome of its open ends the wait. -/
theorem startAnsweredLaterIsStartAnswered : Obligations.StartAnsweredLaterIsStartAnswered := by
  intro s hs hlegal
  have hlater := storageAnswer_of_waiting hs hlegal
  refine ⟨congrArg Host.Outcome.next (startCommand_unanswered hs hlegal),
    (hlater .ok).trans (exec_cmdStart_answered hs hlegal .ok).symm,
    (hlater .fail).trans (exec_cmdStart_answered hs hlegal .fail).symm,
    congrArg Host.Outcome.next (startCommand_unanswered (s := { s with startWaiting := true }) hs hlegal), ?_⟩
  rintro i t (rfl | rfl) ht
  · cases (hlater .ok).symm.trans ht; exact startSession_startWaiting .ok s
  · cases (hlater .fail).symm.trans ht; exact startSession_startWaiting .fail s

end Sys2Proof.Machine

namespace Sys2Proof.Machine

/-! ### CHECK and the normal end of a session (44_acquisition_loop.md R250, R254) -/

/-- The exit code of a session that CHECK ends: the first that holds of budget, capacity, cancel (60_exceptions.md R320). -/
def checkExit (s : State) : ExitCode :=
  if s.budget.toNat ≤ s.sw.toNat then .budgetReached
  else if s.rot = .terminated then .capacityExhausted else .cancelled

theorem exec_stepCheck_of_room {s : State} (hp : s.ph = .check) (hroom : s.sw.toNat < s.budget.toNat)
    (hrot : s.rot ≠ .terminated) (hcancel : s.cancelReq = false) : exec .stepCheck s = .next { s with ph := .sync } := by
  have hroom : s.sw < s.budget := hroom
  simp [exec, execStepCheck, hp, hroom, hrot, hcancel]

theorem exec_stepCheck_of_end {s : State} (hp : s.ph = .check)
    (hend : s.budget.toNat ≤ s.sw.toNat ∨ s.rot = .terminated ∨ s.cancelReq = true) :
    exec .stepCheck s = .next (endSession (checkExit s) s) := by
  have hroom : ¬ s.sw < s.budget ↔ s.budget.toNat ≤ s.sw.toNat := Nat.not_lt
  simp only [exec, execStepCheck, checkExit, hp, if_true, hroom]
  by_cases hbudget : s.budget.toNat ≤ s.sw.toNat
  · rw [if_pos hbudget, if_pos hbudget]
  · rw [if_neg hbudget, if_neg hbudget]
    by_cases hrot : s.rot = .terminated
    · rw [if_pos hrot, if_pos hrot]
    · have hcancel : s.cancelReq = true := (hend.resolve_left hbudget).resolve_left hrot
      rw [if_neg hrot, if_neg hrot, if_pos hcancel]

theorem endSession_rot (code : ExitCode) (s : State) :
    (endSession code s).rot = if s.rot = .segmentOpen then .noSegment else s.rot := by
  unfold endSession; split <;> rfl

/-- A normal end writes rot, EXIT, cancel_req, ph, IRQ_PEND and the store, and no other field. -/
theorem endSession_eq_but_segs (code : ExitCode) (s : State) :
    { endSession code s with segs := s.segs } =
      { s with ph := .done, cancelReq := false, irqPend := true, exitCode := code,
               rot := if s.rot = .segmentOpen then .noSegment else s.rot } := by
  unfold endSession; split <;> rfl

/-- A normal end releases the segment of an open rotator and touches no other entry. -/
theorem endSession_seg (code : ExitCode) (s : State) (j : Nat) :
    (endSession code s).seg j =
      if s.rot = .segmentOpen ∧ j = s.segIndex.toNat then { s.seg j with active := false } else s.seg j := by
  by_cases ho : s.rot = .segmentOpen
  · have hseg : (endSession code s).seg j = (storeRelease s.segIndex.toNat s).seg j := by
      rw [endSession, if_pos ho]; rfl
    rw [hseg]
    by_cases hj : j = s.segIndex.toNat
    · rw [if_pos ⟨ho, hj⟩, hj, seg_storeRelease_self]
    · rw [if_neg fun h => hj h.2, seg_storeRelease, if_neg fun h => hj h.1]
  · rw [if_neg fun h => ho h.1, endSession, if_neg ho]; rfl

theorem endSession_seg_kept (code : ExitCode) (s : State) (j : Nat) :
    ((endSession code s).seg j).present = (s.seg j).present ∧ ((endSession code s).seg j).len = (s.seg j).len := by
  rw [endSession_seg]; split <;> exact ⟨rfl, rfl⟩

/-- Settles O36: none of CHECK's three ends holds. -/
theorem checkGoesOnToSync : Obligations.CheckGoesOnToSync := fun _ => exec_stepCheck_of_room

/-- Settles O37: CHECK's order gives the code, and the end releases the open segment with its bytes. -/
theorem checkEndsTheSession : Obligations.CheckEndsTheSession := by
  intro s hp hend
  refine ⟨_, exec_stepCheck_of_end hp hend, endSession_eq_but_segs (checkExit s) s, fun j => ?_, endSession_seg_kept _ s,
    fun j => readStore_congr (sameBytes_endSession _ s j)⟩
  rw [endSession_seg]
  by_cases hreleased : s.rot = .segmentOpen ∧ j = s.segIndex.toNat
  · simp [hreleased]
  · rw [if_neg hreleased, ← Bool.decide_and, decide_eq_false hreleased]; simp

/-! ### DELIVER in full (44_acquisition_loop.md R252) -/

theorem exec_stepDeliver_of_mapped {s : State} (hp : s.ph = .deliver) (hmapped : s.slotMapped = true) :
    exec .stepDeliver s = .next (deliver s) := by
  simp [exec, execStepDeliver, hp, hmapped]

section
variable {s : State} (ho : s.rot = .segmentOpen)
include ho

theorem deliver_rot_of_open : (deliver s).rot = if s.cursor + 1#32 = s.slots then .segmentFull else .segmentOpen :=
  (deliver_rot s).trans (append_rot_of_open (s := decodeFrame s) ho)

theorem deliver_ph_of_open : (deliver s).ph = if s.cursor + 1#32 = s.slots then .rotate else .check := by
  rw [deliver_ph, ← deliver_rot, deliver_rot_of_open ho]
  by_cases hlast : s.cursor + 1#32 = s.slots <;> simp [hlast]

/-- With a segment open DELIVER writes FH, SW, the cursor, rot, ph and the store, and frees F and the packet registers. -/
theorem deliver_eq_of_open :
    { deliver s with segs := s.segs, frame := s.frame, pkAddr := s.pkAddr, pkSample := s.pkSample, draws := s.draws } =
      { s with fh := false, sw := s.sw + 1#32, cursor := s.cursor + 1#32,
               rot := if s.cursor + 1#32 = s.slots then .segmentFull else .segmentOpen,
               ph := if s.cursor + 1#32 = s.slots then .rotate else .check } := by
  have hcursor : (deliver s).cursor = s.cursor + 1#32 :=
    (deliver_cursor s).trans (append_cursor_of_open (s := decodeFrame s) ho)
  rw [← deliver_rot_of_open ho, ← deliver_ph_of_open ho, ← hcursor, ← deliver_sw]
  simp [-deliver_ph, -deliver_rot, -deliver_cursor]

/-- Every byte of the store after DELIVER: the payload in the slot at the cursor, the old bytes elsewhere. -/
theorem readStore_deliver (hframe : s.frame.length = Config.frameLen) (hindex : s.segIndex.toNat < s.segs.length)
    (j off : Nat) :
    readStore (deliver s) j off =
      if j = s.segIndex.toNat ∧ slotBase s.cursor ≤ off ∧ off < slotBase s.cursor + Config.slotBytes then
        s.frame.getD (6 + (off - slotBase s.cursor)) 0#8
      else readStore s j off := by
  split
  · rename_i hslot
    obtain ⟨rfl, hfrom, hto⟩ := hslot
    obtain ⟨i, rfl⟩ := Nat.exists_eq_add_of_le hfrom
    rw [Nat.add_sub_cancel_left]
    exact readStore_deliver_slot ho hframe hindex (Nat.lt_of_add_lt_add_left hto)
  · rename_i hout
    by_contra hne
    exact hout (readStore_deliver_ne hframe hne)

end

/-- Settles O38: the slot is mapped, so DELIVER has its meaning. -/
theorem deliverStoresTheRow : Obligations.DeliverStoresTheRow := by
  intro s hp ho hframe hindex hactive hslot
  have hmapped : s.slotMapped = true := by
    rw [State.slotMapped, hactive]; exact decide_eq_true hslot
  exact ⟨deliver s, exec_stepDeliver_of_mapped hp hmapped, deliver_eq_of_open ho, deliver_seg_bits ho,
    readStore_deliver ho hframe hindex⟩

end Sys2Proof.Machine

namespace Sys2Proof.Machine

/-! ### The last row of the budget (44_acquisition_loop.md R255) -/

theorem run_succ_of_step {s t : State} (h : step s = .next t) (k : Nat) : core.run (k + 1) s = core.run k t := by
  have hstep : core.step s = .next t := h
  simp only [Host.Core.run, hstep]

/-- `s` with other transactions to come: what a step runs on once it has taken its own off the input (log entry 1). -/
def withInput (rest : List Byte) (s : State) : State := { s with input := rest }

/-- A state of the invariant whose CHECK finds the budget `b` reached. -/
structure ReachedBudget (b : Word) (s : State) : Prop where
  inv : Inv s
  check : s.ph = .check
  sw : s.sw = b
  budget : s.budget = b

namespace ReachedBudget
variable {b : Word} {s : State} (h : ReachedBudget b s)
include h

theorem exec_stepCheck : exec .stepCheck s = .next (endSession .budgetReached s) := by
  have hbudget : s.budget.toNat ≤ s.sw.toNat := by rw [h.sw, h.budget]
  have hcode : checkExit s = .budgetReached := if_pos hbudget
  rw [exec_stepCheck_of_end h.check (.inl hbudget), hcode]

theorem of_withInput (rest : List Byte) : ReachedBudget b (withInput rest s) :=
  ⟨inv_withInput h.inv rest, h.check, h.sw, h.budget⟩

/-- The invariant of the next state says that the end leaves no segment mapped. -/
theorem none_active (j : Nat) : ((endSession .budgetReached s).seg j).active = false := by
  have hinv : Inv (endSession .budgetReached s) := inv_effect h.inv (.budgetReached h.check (by simp [h.sw, h.budget]))
  exact hinv.session.none_active (hinv.phase.rot_of_done (endSession_ph ..)) j

theorem ended :
    (endSession .budgetReached s).ph = .done ∧ (endSession .budgetReached s).exitCode = .budgetReached ∧
      (endSession .budgetReached s).sw = b ∧ (endSession .budgetReached s).irqPend = true := by
  simp [h.sw]

end ReachedBudget

/-- A session that ends before the first row of its open segment leaves that segment existing and zero
(43_storage_rotator.md R228). -/
theorem endSession_untouched_segment {s : State} (h : SessionInv s) (ho : s.rot = .segmentOpen) (hcursor : s.cursor = 0#32)
    (code : ExitCode) :
    ((endSession code s).seg s.segIndex.toNat).present = true ∧ ((endSession code s).seg s.segIndex.toNat).len = s.segBytes ∧
      ∀ off, off < s.segBytes.toNat → readStore (endSession code s) s.segIndex.toNat off = 0#8 := by
  obtain ⟨hpresent, hlen, _⟩ := h.mapped (.inl ho)
  obtain ⟨hpresent', hlen'⟩ := endSession_seg_kept code s s.segIndex.toNat
  refine ⟨hpresent'.trans hpresent, hlen'.trans hlen, fun off hoff => ?_⟩
  rw [readStore_congr (sameBytes_endSession code s _)]
  exact h.unwritten ho off (by rw [hcursor]; exact Nat.zero_le off) hoff

/-- A DELIVER that fills its segment goes to ROTATE, any other one back to CHECK with the segment open. -/
theorem deliver_phase_of_inv {s : State} (h : Inv s) (hp : s.ph = .deliver) :
    (s.cursor + 1#32 = s.slots → (deliver s).ph = .rotate) ∧
      (s.cursor + 1#32 ≠ s.slots → (deliver s).ph = .check ∧ (deliver s).rot = .segmentOpen) := by
  have ho : s.rot = .segmentOpen := h.phase.open_of_sync (.inr hp)
  rw [deliver_ph_of_open ho, deliver_rot_of_open ho]
  exact ⟨fun hlast => if_pos hlast, fun hmore => ⟨if_neg hmore, if_neg hmore⟩⟩

/-- ROTATE at the last segment: released, counted on, Terminated (43_storage_rotator.md R222). -/
def rotateLast (s : State) : State := { releaseFull s with rot := .terminated, ph := .check }

/-- ROTATE at another segment, its open answered OPEN_OK: the next one is open (43_storage_rotator.md R222). -/
def rotateOpened (s : State) : State := openSegment (s.segIndex + 1#32).toNat .ok toCheck (releaseFull s)

theorem exec_stepRotate_last {s : State} (hp : s.ph = .rotate) (hlast : s.segIndex + 1#32 = s.segCount)
    (a : Option StorageAnswer) : exec (.stepRotate a) s = .next (rotateLast s) :=
  (exec_stepRotate hp a).trans (rotate_of_last hlast a)

theorem exec_stepRotate_opened {s : State} (h : Inv s) (hp : s.ph = .rotate) (hopens : s.segIndex + 1#32 ≠ s.segCount) :
    exec (.stepRotate (some .ok)) s = .next (rotateOpened s) :=
  (exec_stepRotate hp _).trans
    (rotate_answered hopens (rotation_inside_store h hp ((rotationOpens_iff s).mpr hopens)) .ok)

/-! The controller's step with no transaction to come (log entry 3). -/

theorem step_deliver_of_noInput {s : State} (h : Inv s) (hp : s.ph = .deliver) (hin : s.input = []) :
    step s = .next (deliver s) := by
  obtain ⟨_, hdeliver, _⟩ := stepWithoutTransaction s hin
  rw [hdeliver hp, exec_stepDeliver_of_inv h hp]

theorem step_rotateLast_of_noInput {s : State} (hp : s.ph = .rotate) (hlast : s.segIndex + 1#32 = s.segCount)
    (hin : s.input = []) : step s = .next (rotateLast s) := by
  obtain ⟨_, _, hrotate, _⟩ := stepWithoutTransaction s hin
  rw [hrotate hp, exec_stepRotate_last hp hlast]

theorem step_check_of_noInput {s : State} {b : Word} (h : ReachedBudget b s) (hin : s.input = []) :
    step s = .next (endSession .budgetReached s) := by
  obtain ⟨hcheck, _⟩ := stepWithoutTransaction s hin
  rw [hcheck h.check, h.exec_stepCheck]

/-! The controller's step read from the input (log entries 1 and 11). -/

section
variable {s : State} {rest : List Byte}

theorem step_of_encoded {i : Instr} (hi : i.wellFormed = true) (hin : s.input = encode i ++ rest) :
    step s = exec i (withInput rest s) :=
  step_of_decode (by rw [hin]; exact decodeOfEncodeIsIdentity i rest hi)

theorem step_deliver_of_encoded (h : Inv s) (hp : s.ph = .deliver) (hin : s.input = encode .stepDeliver ++ rest) :
    step s = .next (deliver (withInput rest s)) :=
  (step_of_encoded rfl hin).trans (exec_stepDeliver_of_inv (inv_withInput h rest) hp)

theorem step_rotateOpened_of_encoded (h : Inv s) (hp : s.ph = .rotate) (hopens : s.segIndex + 1#32 ≠ s.segCount)
    (hin : s.input = encode (.stepRotate (some .ok)) ++ rest) : step s = .next (rotateOpened (withInput rest s)) :=
  (step_of_encoded rfl hin).trans (exec_stepRotate_opened (inv_withInput h rest) hp hopens)

theorem step_check_of_encoded {b : Word} (h : ReachedBudget b s) (hin : s.input = encode .stepCheck) :
    step s = .next (endSession .budgetReached (withInput [] s)) :=
  (step_of_encoded rfl (hin.trans (List.append_nil _).symm)).trans (h.of_withInput []).exec_stepCheck

end

/-! The three runs. -/

section
variable {s : State} (h : Inv s) (hp : s.ph = .deliver) (hbudget : s.sw + 1#32 = s.budget)
include h hp hbudget

/-- The row leaves its segment open: DELIVER, then CHECK. -/
theorem run_lastRow_of_open (hin : s.input = []) (hmore : s.cursor + 1#32 ≠ s.slots) :
    ∃ v, core.run 2 s = .next (endSession .budgetReached v) ∧ ReachedBudget s.budget v ∧ v.rot = .segmentOpen := by
  obtain ⟨hcheck, ho⟩ := (deliver_phase_of_inv h hp).2 hmore
  have hdeliver := step_deliver_of_noInput h hp hin
  have hreached : ReachedBudget s.budget (deliver s) :=
    ⟨invariantKept _ _ h hdeliver, hcheck, (deliver_sw s).trans hbudget, deliver_budget s⟩
  have hend := step_check_of_noInput hreached ((deliver_input s).trans hin)
  exact ⟨_, by rw [run_succ_of_step hdeliver, run_succ_of_step hend]; rfl, hreached, ho⟩

/-- The row fills the last segment: DELIVER, ROTATE, then CHECK. -/
theorem run_lastRow_of_last (hin : s.input = []) (hfull : s.cursor + 1#32 = s.slots)
    (hlast : s.segIndex + 1#32 = s.segCount) :
    ∃ v, core.run 3 s = .next (endSession .budgetReached v) ∧ ReachedBudget s.budget v ∧ v.rot = .terminated := by
  have hrotate := (deliver_phase_of_inv h hp).1 hfull
  have hdeliver := step_deliver_of_noInput h hp hin
  have hrelease := step_rotateLast_of_noInput hrotate (by simpa using hlast) ((deliver_input s).trans hin)
  have hreached : ReachedBudget s.budget (rotateLast (deliver s)) :=
    ⟨invariantKept _ _ (invariantKept _ _ h hdeliver) hrelease, rfl, (deliver_sw s).trans hbudget, deliver_budget s⟩
  have hend := step_check_of_noInput hreached ((deliver_input s).trans hin)
  exact ⟨_, by rw [run_succ_of_step hdeliver, run_succ_of_step hrelease, run_succ_of_step hend]; rfl, hreached, rfl⟩

/-- The row fills a segment that is not the last: DELIVER, ROTATE answered OPEN_OK, then CHECK, which finds the next segment open
and untouched. -/
theorem run_lastRow_of_full
    (hin : s.input = encode .stepDeliver ++ (encode (.stepRotate (some .ok)) ++ encode .stepCheck))
    (hfull : s.cursor + 1#32 = s.slots) (hopens : s.segIndex + 1#32 ≠ s.segCount) :
    ∃ v, core.run 3 s = .next (endSession .budgetReached v) ∧ ReachedBudget s.budget v ∧ v.rot = .segmentOpen ∧
      v.cursor = 0#32 ∧ v.segIndex = s.segIndex + 1#32 ∧ v.segBytes = s.segBytes := by
  generalize hr : encode (.stepRotate (some .ok)) ++ encode .stepCheck = r at hin
  have hrotate : (deliver (withInput r s)).ph = .rotate := (deliver_phase_of_inv (inv_withInput h r) hp).1 hfull
  have hdeliver := step_deliver_of_encoded h hp hin
  have hinv := invariantKept _ _ h hdeliver
  have hopen := step_rotateOpened_of_encoded hinv hrotate (by simpa [withInput] using hopens) ((deliver_input _).trans hr.symm)
  have hreached : ReachedBudget s.budget (rotateOpened (withInput (encode .stepCheck) (deliver (withInput r s)))) :=
    ⟨invariantKept _ _ hinv hopen, rfl, (deliver_sw _).trans hbudget, deliver_budget _⟩
  have hend := step_check_of_encoded hreached rfl
  exact ⟨_, by rw [run_succ_of_step hdeliver, run_succ_of_step hopen, run_succ_of_step hend]; rfl, hreached.of_withInput [],
    rfl, rfl, congrArg (· + 1#32) (deliver_segIndex _), deliver_segBytes _⟩

end

/-- Settles O60: the three runs end in the CHECK that finds the budget reached, and what it releases the invariant says. -/
theorem lastRowEndsTheSession : Obligations.LastRowEndsTheSession := by
  intro s h hp hbudget
  have hindex : (s.segIndex + 1#32).toNat = s.segIndex.toNat + 1 := by
    obtain ⟨_, _, hlt⟩ := h.session.mapped (.inl (h.phase.open_of_sync (.inr hp)))
    exact toNat_add_one_of_lt hlt
  refine ⟨fun hin hmore => ?_, fun hin hfull hlast => ?_, fun hin hfull hopens => ?_⟩
  · obtain ⟨v, hrun, hreached, ho⟩ := run_lastRow_of_open h hp hbudget hin hmore
    obtain ⟨hdone, hexit, hsw, hirq⟩ := hreached.ended
    exact ⟨_, hrun, hdone, hexit, hsw, hirq, by simp [endSession_rot, ho], hreached.none_active _⟩
  · obtain ⟨v, hrun, hreached, hterminated⟩ := run_lastRow_of_last h hp hbudget hin hfull hlast
    obtain ⟨hdone, hexit, hsw, hirq⟩ := hreached.ended
    exact ⟨_, hrun, hdone, hexit, hsw, hirq, by simp [endSession_rot, hterminated], hreached.none_active _⟩
  · obtain ⟨v, hrun, hreached, ho, hcursor, hnext, hbytes⟩ := run_lastRow_of_full h hp hbudget hin hfull hopens
    obtain ⟨hdone, hexit, hsw, hirq⟩ := hreached.ended
    have hsegment := endSession_untouched_segment hreached.inv.session ho hcursor .budgetReached
    rw [hnext, hindex, hbytes] at hsegment
    exact ⟨_, hrun, hdone, hexit, hsw, hirq, by simp [endSession_rot, ho], hreached.none_active, hsegment⟩

end Sys2Proof.Machine

namespace Sys2Proof.Machine

/-! ### The host commands one by one (45_host_commands.md R280 to R287) -/

theorem startCommand_inSession {s : State} (h : InSession s) (a : Option StorageAnswer) :
    startCommand a s = illegalCommand s := if_pos (running_of_inSession h)

/-- Outside a session START checks the configuration before it looks at its answer (log entry 22). -/
theorem startCommand_of_illegalConfig {s : State} (hs : Stopped s) (hillegal : ¬ LegalConfig s) (a : Option StorageAnswer) :
    startCommand a s = { s with cfgErr := true, startWaiting := false } := by
  have hrunning : ¬ s.running = true := by simp [not_running_of_stopped hs]
  exact (if_neg hrunning).trans (if_neg (mt (configLegal_iff s).mp hillegal))

theorem cancelCommand_inSession {s : State} (h : InSession s) : cancelCommand s = { s with cancelReq := true } :=
  if_pos (running_of_inSession h)

theorem cancelCommand_stopped {s : State} (h : Stopped s) : cancelCommand s = illegalCommand s :=
  if_neg (by simp [not_running_of_stopped h])

/-- A word above 4 has a bit in its upper 24 bits or a lowest byte above 4 (30_encoding.md R116). -/
theorem commandWord_of_illegalWord {d : Word} (h : 4 < d.toNat) (a : Option StorageAnswer) (s : State) :
    commandWord d a s = illegalCommand s := by
  refine if_pos (or_iff_not_imp_left.mpr fun hhigh => ?_)
  have hword := congrArg BitVec.toNat (word_eq_of_lowByte (not_not.mp hhigh) rfl)
  rw [BitVec.toNat_ofNat] at hword
  omega

theorem getLsbD_eq_decide (d : Word) (i : Nat) : d.getLsbD i = decide (d.toNat / 2 ^ i % 2 = 1) :=
  Nat.testBit_eq_decide_div_mod_eq

theorem writeIrq_eq (d : Word) (s : State) :
    writeIrq d s =
      { s with irqEn := decide (d.toNat % 2 = 1), irqPend := s.irqPend && decide (d.toNat / 2 % 2 = 0) } := by
  rw [writeIrq, getLsbD_eq_decide, getLsbD_eq_decide, Nat.pow_zero, Nat.div_one, Nat.pow_one]
  rcases Nat.mod_two_eq_zero_or_one (d.toNat / 2) with hkeep | hclear
  · simp [hkeep]
  · simp [hclear]

/-- SOFTRESET clears every active flag of the store and nothing else in it. -/
theorem seg_softReset (s : State) (j : Nat) : (softReset s).seg j = { s.seg j with active := false } :=
  seg_releaseActive s j

/-- Settles O7: NOP's meaning is the state itself. -/
theorem nopChangesNothing : Obligations.NopChangesNothing := fun _ => rfl

/-- Settles O10: the session is tested first, then the configuration, and the answer last. -/
theorem startTurnedAway : Obligations.StartTurnedAway := fun _ a =>
  ⟨fun hs => congrArg Host.Outcome.next (startCommand_inSession hs a),
    fun hs hillegal => congrArg Host.Outcome.next (startCommand_of_illegalConfig hs hillegal a)⟩

/-- Settles O12: CANCEL asks only whether a session runs. -/
theorem cancelRequests : Obligations.CancelRequests := fun _ =>
  ⟨fun hs => congrArg Host.Outcome.next (cancelCommand_inSession hs),
    fun hs => congrArg Host.Outcome.next (cancelCommand_stopped hs)⟩

/-- Settles O13: CLRERR's meaning is the record update itself. -/
theorem clrerrClearsErrors : Obligations.ClrerrClearsErrors := fun _ => rfl

/-- Settles O14: the fields are set one by one, and the release touches active flags only. -/
theorem softresetReturnsToIdle : Obligations.SoftresetReturnsToIdle := fun s => ⟨softReset s, rfl, rfl, seg_softReset s⟩

/-- Settles O15: the five legal words run their commands, and every word above them is illegal. -/
theorem commandWordDispatch : Obligations.CommandWordDispatch := by
  intro d a s
  refine ⟨?_, ?_, ?_, ?_, ?_, fun h => congrArg Host.Outcome.next (commandWord_of_illegalWord h a s)⟩
  all_goals rintro rfl; rfl

/-- Settles O18: bit 0 of the word is its parity, bit 1 that of its half. -/
theorem irqWrite : Obligations.IrqWrite := fun s d => congrArg Host.Outcome.next (writeIrq_eq d s)

/-! ### START answered: a session or the fatal path (45_host_commands.md R282, 43_storage_rotator.md R220) -/

/-- The three ways an answered START is given have one effect (log entry 2). -/
theorem exec_start_answered {s : State} {i : Instr} {b : StorageAnswer} (hs : Stopped s) (hlegal : LegalConfig s)
    (hi : i = .cmdStart (some b) ∨ i = .wrCmd 1#32 (some b) ∨ (i = storageAnswerInstr b ∧ s.startWaiting = true)) :
    exec i s = .next (startSession b s) := by
  rcases hi with rfl | rfl | ⟨rfl, hw⟩
  · exact exec_cmdStart_answered hs hlegal b
  · exact exec_cmdStart_answered hs hlegal b
  · have hself : { s with startWaiting := true } = s := by rw [← hw]
    rw [exec_storageAnswerInstr, ← storageAnswer_of_waiting hs hlegal b, hself]

theorem sameBytes_startSession_fail (s : State) : SameBytes s (startSession .fail s) :=
  SameBytes.trans (t := initSession s) (sameBytes_of_segs rfl) (sameBytes_openSegment_fail 0 _)

/-- Settles O8: `initSession` clears the counts, and the open replaces entry 0 of the store and no other. -/
theorem startOpensSegmentZero : Obligations.StartOpensSegmentZero := by
  intro s i hs hlegal hlen hi
  have hin : 0 < (initSession s).segs.length := by
    obtain ⟨_, _, _, hone, hcount⟩ := hlegal
    exact (hone.trans hcount).trans_eq hlen.symm
  have hopened := (openSegment_ok_seg 0 0 (initSession s)).trans (if_pos ⟨rfl, hin⟩)
  refine ⟨startSession .ok s, exec_start_answered hs hlegal hi, rfl, slots_toNat s.segBytes,
    fun hfits => capacity_toNat hfits ((configLegal_iff s).mpr hlegal), congrArg Segment.present hopened,
    congrArg Segment.active hopened, congrArg Segment.len hopened, readStore_storeOpen hin,
    fun j hj => (openSegment_ok_seg 0 j (initSession s)).trans (if_neg fun h => hj h.1)⟩

/-- Settles O9: the failed open drops entry 0, and the fatal path releases; no length and no byte changes. -/
theorem startOpenFailureIsFatal : Obligations.StartOpenFailureIsFatal := by
  intro s i hs hlegal _ hi
  exact ⟨startSession .fail s, exec_start_answered hs hlegal hi, rfl, slots_toNat s.segBytes,
    fun hfits => capacity_toNat hfits ((configLegal_iff s).mpr hlegal), openSegment_fail_seg_present 0 (initSession s),
    fun j => ⟨congrArg Segment.active (openSegment_fail_seg 0 j (initSession s)),
      openSegment_fail_seg_len 0 j (initSession s)⟩,
    fun j hj => openSegment_fail_seg_present_of_ne hj (initSession s),
    fun j => readStore_congr (sameBytes_startSession_fail s j)⟩

end Sys2Proof.Machine

namespace Sys2Proof.Machine

/-! ### CAPACITY_EXHAUSTED (60_exceptions.md R317) -/

/-- CHECK runs in its own phase, and ends the session or goes on to SYNC (44_acquisition_loop.md R250). -/
theorem exec_stepCheck_next {s t : State} (h : exec .stepCheck s = .next t) :
    s.ph = .check ∧ (t = endSession (checkExit s) s ∨ t = { s with ph := .sync }) := by
  have hp : s.ph = .check := by
    by_contra hp
    cases (if_neg hp).symm.trans h
  refine ⟨hp, ?_⟩
  by_cases hend : s.budget.toNat ≤ s.sw.toNat ∨ s.rot = .terminated ∨ s.cancelReq = true
  · cases (exec_stepCheck_of_end hp hend).symm.trans h
    exact .inl rfl
  · obtain ⟨hroom, hrot, hcancel⟩ := by simpa only [not_or] using hend
    cases (exec_stepCheck_of_room hp (Nat.not_le.mp hroom) hrot (Bool.eq_false_of_not_eq_true hcancel)).symm.trans h
    exact .inr rfl

theorem checkExit_eq_capacityExhausted_iff (s : State) :
    checkExit s = .capacityExhausted ↔ s.sw.toNat < s.budget.toNat ∧ s.rot = .terminated := by
  unfold checkExit
  by_cases hbudget : s.budget.toNat ≤ s.sw.toNat
  · simp [hbudget]
  · by_cases hrot : s.rot = .terminated <;> simp [hbudget, hrot, Nat.not_le.mp hbudget]

/-- Settles O59: the code says that the rotator is Terminated with room in the budget, and the invariant that a Terminated
rotator has filled every segment. -/
theorem capacityExhaustedMeansFull : Obligations.CapacityExhaustedMeansFull := by
  intro s t hinv h hexit
  obtain ⟨hp, rfl | rfl⟩ := exec_stepCheck_next h
  · rw [endSession_exitCode, checkExit_eq_capacityExhausted_iff] at hexit
    obtain ⟨hroom, hrot⟩ := hexit
    obtain ⟨hcursor, hsw, hindex⟩ := hinv.session.terminated hrot
    simp [hcursor, hsw ▸ hroom, hsw, hindex (running_of_inSession (.inl hp)), endSession_rot, hrot]
  · have hnone : s.exitCode = .none := hinv.phase.exit_none_iff.mpr (by simp [hp])
    cases hnone.symm.trans hexit

/-! ### Which transactions set and clear IRQ_PEND (60_exceptions.md R318, 10_state.md R48) -/

/-- The transactions that can take the fatal path: a failed link, and a failed open as START, ROTATE or the storage agent's own
answer gives it (60_exceptions.md R313, R315). -/
def CanBeFatal (i : Instr) : Prop :=
  i = .rxFail ∨ i = .saOpenFail ∨ i = .cmdStart (some .fail) ∨ i = .wrCmd 1#32 (some .fail) ∨ i = .stepRotate (some .fail)

/-- The transactions that clear IRQ_PEND (10_state.md R48). -/
def ClearsIrqPend (i : Instr) : Prop :=
  i = .cmdSoftreset ∨ i = .stepReset ∨ (∃ a, i = .wrCmd 4#32 a) ∨ ∃ d : Word, i = .wrIrq d ∧ d.getLsbD 1 = true

/-- From `s` to `t` no session ends: `t` is in DONE or FAULT only where `s` was. -/
def NoSessionEnd (s t : State) : Prop := t.ph = .done ∨ t.ph = .fault → t.ph = s.ph

theorem noSessionEnd_of_ph {s t : State} (h : t.ph = s.ph) : NoSessionEnd s t := fun _ => h

theorem noSessionEnd_of_ne {s t : State} (hdone : t.ph ≠ .done) (hfault : t.ph ≠ .fault) : NoSessionEnd s t :=
  fun h => (h.elim hdone hfault).elim

/-- What a transaction can do to IRQ_PEND, together with the phase it leads to. -/
inductive IrqCause (i : Instr) (s t : State) : Prop where
  | ended (hi : i = .stepCheck) (hp : s.ph = .check) (hph : t.ph = .done) (hpend : t.irqPend = true)
  | fatal (hi : CanBeFatal i) (hph : t.ph = .fault) (hpend : t.irqPend = true)
  | cleared (hi : ClearsIrqPend i) (hph : NoSessionEnd s t) (hpend : t.irqPend = false)
  | kept (hph : NoSessionEnd s t) (hpend : t.irqPend = s.irqPend)

/-- A transaction that changes neither the phase nor IRQ_PEND. -/
theorem irqCause_same {i : Instr} {s t : State} (hph : t.ph = s.ph) (hpend : t.irqPend = s.irqPend) : IrqCause i s t :=
  .kept (noSessionEnd_of_ph hph) hpend

theorem irqCause_cancelCommand (i : Instr) (s : State) : IrqCause i s (cancelCommand s) := by
  rcases cancelCommand_cases s with ⟨_, h⟩ | ⟨_, h⟩ <;> rw [h] <;> exact irqCause_same rfl rfl

theorem irqCause_writeConfig {i : Instr} {f : State → State} {s : State} (hph : (f s).ph = s.ph)
    (hpend : (f s).irqPend = s.irqPend) : IrqCause i s (writeConfig f s) := by
  rcases writeConfig_cases f s with ⟨_, h⟩ | ⟨_, h⟩ <;> rw [h]
  · exact irqCause_same rfl rfl
  · exact irqCause_same hph hpend

theorem irqCause_softReset {i : Instr} (hi : ClearsIrqPend i) (s : State) : IrqCause i s (softReset s) :=
  .cleared hi (noSessionEnd_of_ne nofun nofun) rfl

/-- The SYNC step stays in SYNC or emits a frame (41_frame_sync.md R172). -/
theorem irqCause_syncStep (i : Instr) (data : List Byte) (s : State) : IrqCause i s (syncStep data s) := by
  rcases syncStep_cases data s with ⟨_, h⟩ | ⟨_, _, _, h⟩ | ⟨_, _, _, h⟩ <;> rw [h]
  · exact irqCause_same rfl rfl
  · exact irqCause_same rfl rfl
  · exact .kept (noSessionEnd_of_ne nofun nofun) rfl

/-- DELIVER leads to ROTATE or CHECK (44_acquisition_loop.md R252). -/
theorem deliver_ph_cases (s : State) : (deliver s).ph = .rotate ∨ (deliver s).ph = .check := by
  rw [deliver_ph]
  exact ite_eq_or_eq ..

theorem irqCause_deliver (i : Instr) (s : State) : IrqCause i s (deliver s) := by
  refine .kept ?_ (deliver_irqPend s)
  rcases deliver_ph_cases s with h | h <;> simp [NoSessionEnd, h, -deliver_ph]

/-- An open that START or ROTATE has prepared in the state `u`. -/
theorem irqCause_openSegment {i : Instr} {b : StorageAnswer} {s u : State} (n : Nat) (hi : b = .fail → CanBeFatal i)
    (hpend : u.irqPend = s.irqPend) : IrqCause i s (openSegment n b toCheck u) := by
  cases b with
  | ok => exact .kept (noSessionEnd_of_ne nofun nofun) hpend
  | fail => exact .fatal (hi rfl) rfl rfl

theorem irqCause_startCommand {i : Instr} {a : Option StorageAnswer} {s : State} (hi : a = some .fail → CanBeFatal i) :
    IrqCause i s (startCommand a s) := by
  rcases startCommand_cases a s with ⟨_, h⟩ | ⟨_, _, h⟩ | ⟨_, _, _, h⟩ | ⟨_, _, b, ha, h⟩ <;> rw [h]
  · exact irqCause_same rfl rfl
  · exact irqCause_same rfl rfl
  · exact irqCause_same rfl rfl
  · exact irqCause_openSegment 0 (fun hb => hi (by rw [ha, hb])) (initSession_irqPend s)

theorem irqCause_rotate {i : Instr} {a : Option StorageAnswer} {s t : State} (hi : a = some .fail → CanBeFatal i)
    (h : rotate a s = .next t) : IrqCause i s t := by
  rcases rotate_cases a s with ⟨_, h'⟩ | ⟨_, _, h'⟩ | ⟨_, _, b, ha, h'⟩ | ⟨_, _, h'⟩ <;> rw [h'] at h <;> cases h
  · exact .kept (noSessionEnd_of_ne nofun nofun) rfl
  · exact irqCause_same rfl rfl
  · exact irqCause_openSegment _ (fun hb => hi (by rw [ha, hb])) (releaseFull_irqPend s)

theorem irqCause_storageAnswer {i : Instr} {b : StorageAnswer} {s t : State} (hi : b = .fail → CanBeFatal i)
    (h : storageAnswer b s = .next t) : IrqCause i s t := by
  have hi : some b = some .fail → CanBeFatal i := fun hb => hi (Option.some.inj hb)
  rcases storageAnswer_cases b s with ⟨_, h'⟩ | ⟨_, _, _, h'⟩ | h' <;> rw [h'] at h
  · cases h; exact irqCause_startCommand hi
  · exact irqCause_rotate hi h
  · cases h

theorem irqCause_commandWord (d : Word) (a : Option StorageAnswer) (s : State) :
    IrqCause (.wrCmd d a) s (commandWord d a s) := by
  rcases commandWord_word_cases d a s with h | h | ⟨hd, h⟩ | h | h | ⟨hd, h⟩ <;> rw [h]
  · exact irqCause_same rfl rfl
  · exact irqCause_same rfl rfl
  · exact irqCause_startCommand fun ha => .inr (.inr (.inr (.inl (by rw [hd, ha]))))
  · exact irqCause_cancelCommand _ s
  · exact irqCause_same rfl rfl
  · exact irqCause_softReset (.inr (.inr (.inl ⟨a, by rw [hd]⟩))) s

theorem irqCause_writeIrq (d : Word) (s : State) : IrqCause (.wrIrq d) s (writeIrq d s) := by
  by_cases hd : d.getLsbD 1 = true
  · exact .cleared (.inr (.inr (.inr ⟨d, rfl, hd⟩))) (noSessionEnd_of_ph rfl) (if_pos hd)
  · exact irqCause_same rfl (if_neg hd)

/-- Every next state of an instruction has one of the causes. -/
theorem exec_irqCause {i : Instr} {s t : State} (h : exec i s = .next t) : IrqCause i s t := by
  cases i with
  | cmdNop | cmdClrerr | wrReadonlyOrReserved | rd => cases h; exact irqCause_same rfl rfl
  | cmdStart a => cases h; exact irqCause_startCommand fun ha => .inr (.inr (.inl (by rw [ha])))
  | cmdCancel => cases h; exact irqCause_cancelCommand _ s
  | cmdSoftreset => cases h; exact irqCause_softReset (.inl rfl) s
  | rxData data =>
    rcases exec_rxData_cases data s with h' | ⟨_, h'⟩ <;> rw [h'] at h <;> cases h
    exact irqCause_syncStep _ data s
  | rxFail =>
    rcases exec_rxFail_cases s with h' | ⟨_, h'⟩ <;> rw [h'] at h <;> cases h
    exact .fatal (.inl rfl) rfl rfl
  | saOpenOk => exact irqCause_storageAnswer (b := .ok) nofun h
  | saOpenFail => exact irqCause_storageAnswer (fun _ => .inr (.inl rfl)) h
  | wrCmd d a => cases h; exact irqCause_commandWord d a s
  | wrHdr0 | wrHdr1 | wrBudget | wrSegBytes | wrSegCount => cases h; exact irqCause_writeConfig rfl rfl
  | wrIrq d => cases h; exact irqCause_writeIrq d s
  | read seg off n =>
    rcases exec_read_cases seg off n s with ⟨_, h'⟩ | ⟨_, _, h'⟩ <;> rw [h'] at h <;> cases h
    exact irqCause_same rfl rfl
  | stepCheck =>
    obtain ⟨hp, rfl | rfl⟩ := exec_stepCheck_next h
    · exact .ended rfl hp (endSession_ph ..) (endSession_irqPend ..)
    · exact .kept (noSessionEnd_of_ne nofun nofun) rfl
  | stepDeliver =>
    rcases exec_stepDeliver_cases s with h' | ⟨_, _, _, h'⟩ | ⟨_, h'⟩ <;> rw [h'] at h <;> cases h
    exact irqCause_deliver _ s
  | stepRotate a =>
    rcases exec_stepRotate_cases a s with ⟨_, h'⟩ | ⟨_, h'⟩ <;> rw [h'] at h
    · exact irqCause_rotate (fun ha => .inr (.inr (.inr (.inr (by rw [ha]))))) h
    · cases h
  | stepReset => cases h; exact .cleared (.inr (.inl rfl)) (noSessionEnd_of_ne nofun nofun) rfl

namespace IrqCause
variable {i : Instr} {s t : State} (c : IrqCause i s t)
include c

theorem set_at_sessionEnd (hend : ¬ NoSessionEnd s t) : t.irqPend = true := by
  cases c with
  | ended _ _ _ hpend | fatal _ _ hpend => exact hpend
  | cleared _ hph _ | kept hph _ => exact absurd hph hend

theorem of_set (hs : s.irqPend = false) (ht : t.irqPend = true) :
    (i = .stepCheck ∧ s.ph = .check ∧ t.ph = .done) ∨ (t.ph = .fault ∧ CanBeFatal i) := by
  cases c with
  | ended hi hp hph _ => exact .inl ⟨hi, hp, hph⟩
  | fatal hi hph _ => exact .inr ⟨hph, hi⟩
  | cleared _ _ hpend => cases hpend.symm.trans ht
  | kept _ hpend => cases (hpend.trans hs).symm.trans ht

theorem of_cleared (hs : s.irqPend = true) (ht : t.irqPend = false) : ClearsIrqPend i := by
  cases c with
  | ended _ _ _ hpend | fatal _ _ hpend => cases hpend.symm.trans ht
  | cleared hi _ _ => exact hi
  | kept _ hpend => cases (hpend.trans hs).symm.trans ht

end IrqCause

/-- Settles O47: every transaction has one of four causes, and a START that fails in FAULT takes the fatal path again. -/
theorem interruptPending : Obligations.InterruptPending := by
  intro i s t h
  have c := exec_irqCause h
  refine ⟨fun hend hne => c.set_at_sessionEnd fun hno => hne (hno hend), fun hs hlegal hi => ?_, c.of_set,
    Bool.and_eq_true_iff, c.of_cleared⟩
  cases (exec_start_answered (b := .fail) hs hlegal hi).symm.trans h
  exact ⟨rfl, rfl⟩

end Sys2Proof.Machine
namespace Sys2Proof.Machine

/-! ### Hardware reset (70_reset_and_hazards.md R340) -/

/-- Hardware reset clears the two flags of every segment of the store; its length and bytes stay (log entry 8). -/
theorem seg_hardReset (s : State) (j : Nat) : (hardReset s).seg j = { s.seg j with present := false, active := false } := by
  rw [State.seg, hardReset_segs]
  exact List.getD_map s.segs Segment.absent fun g => { g with present := false, active := false }

/-- Hardware reset restores the header pattern that the state at power-on holds, in wire order. -/
theorem hdr_hardReset (s : State) : (hardReset s).hdr = [0x00#8, 0x80#8, 0xE1#8, 0x12#8, 0x34#8, 0x56#8] :=
  calc (hardReset s).hdr
    _ = State.reset.hdr := hdr_congr rfl rfl
    _ = _ := by decide

/-- Settles O45: the fields are set one by one, and no segment of the store keeps a flag. -/
theorem hardwareReset : Obligations.HardwareReset := fun s =>
  ⟨hardReset s, rfl, rfl, hdr_hardReset s, rfl, fun j => by simp [seg_hardReset]⟩

end Sys2Proof.Machine
